-- ==== Sys2Proof/Word.lean ====
section
/-! DEFINITION. The widths of spec/00_scope.md R7 (ADDR_WIDTH, DATA_WIDTH, W_DOW, W_YEAR) as bit-vector types. -/

namespace Sys2Proof

/-- A byte, and equally an 8-bit register address: both are 8 bits wide (R7, R8, R38). -/
abbrev Byte := BitVec 8

/-- The 3-bit weekday counter (R21; width from decision D4). -/
abbrev Weekday := BitVec 3

/-- The 16-bit absolute year, which wraps modulo 65536 (R21, R69; width from decision D4). -/
abbrev Year := BitVec 16

end Sys2Proof
end

