-- ==== Sys2Proof/Config.lean ====
section
/-! DEFINITION. The implementation parameters of spec/00_scope.md R7, each at the value this hardware takes.
BUS_SLAVE_ADDRESS is OPEN (decision D24): a constant with no body. No parameter is a free value an instruction reads. -/

namespace Sys2Proof.Config

/-- `BURST_BASE`: the address whose READ answers with the burst (R7, R103). -/
def burstBase : Byte := 0x00

/-- `YEAR_BASE` (R7, R30). -/
def yearBase : Nat := 2000

/-- `CENTURY_OFFSET` (R7, R30). -/
def centuryOffset : Nat := 100

/-- `CONTROL_RESET` = 0b0001_1100 (R7, R31). -/
def controlReset : Byte := 0x1C

/-- `STATUS_RESET` = 0b1000_1000 (R7, R32). -/
def statusReset : Byte := 0x88

/-- `INERT_RESET` (R7, R37). DESIGN CHOICE of the spec (decision D13), log 7. -/
def inertReset : Byte := 0x00

/-- `DOW_ADVANCES`: the weekday steps at midnight (R7, R74). UNVERIFIED: the spec's decision D17, log 11. -/
def dowAdvances : Bool := true

/-- `TICK_BASE_HZ`, the construction parameter's default (R7, R109, R136); no rule of the core reads it. -/
def tickBaseHz : Nat := 32768

/-- `PRESCALE_A` (R7, R136); no rule of the core reads it. -/
def prescaleA : Nat := 256

/-- `PRESCALE_B` (R7, R136); no rule of the core reads it. -/
def prescaleB : Nat := 128

/-- `BUS_SLAVE_ADDRESS`: OPEN (R7, decision D24). Nothing is known of it and no rule reads it (log 17). -/
opaque busSlaveAddress : Nat

end Sys2Proof.Config
end

