-- ==== Sys2Proof/Syntax.lean ====
section
/-! DEFINITION. The operations and register micro-operations of spec/opcode_table.json as one inductive, the three
decode spaces of R60, and the named registers of R14 with their classes (R15). -/

namespace Sys2Proof

/-- The three decode spaces of spec/opcode_table.json (R60): rows of different spaces are never matched against the same bits. -/
inductive Space where
  /-- The command frames of R58, keyed by an opcode byte. -/
  | command
  /-- The register writes of R56: an address byte, then a data byte. -/
  | regWrite
  /-- The register reads of R56: an address byte. -/
  | regRead
  deriving DecidableEq, Repr

/-- The registers as R14 names them; `undefHi` stands for every address 0x14..0xFF. -/
inductive RegName where
  /-- SECONDS, address 0x00 (R14). -/
  | seconds
  /-- MINUTES, address 0x01 (R14). -/
  | minutes
  /-- HOURS, address 0x02 (R14). -/
  | hours
  /-- DAYOFWEEK, address 0x03 (R14). -/
  | dayOfWeek
  /-- DAYOFMONTH, address 0x04 (R14). -/
  | dayOfMonth
  /-- MONTH, address 0x05 (R14). -/
  | month
  /-- YEAR, address 0x06 (R14). -/
  | year
  /-- ALARM1_0, address 0x07 (R14). -/
  | alarm1_0
  /-- ALARM1_1, address 0x08 (R14). -/
  | alarm1_1
  /-- ALARM1_2, address 0x09 (R14). -/
  | alarm1_2
  /-- ALARM1_3, address 0x0A (R14). -/
  | alarm1_3
  /-- ALARM2_0, address 0x0B (R14). -/
  | alarm2_0
  /-- ALARM2_1, address 0x0C (R14). -/
  | alarm2_1
  /-- ALARM2_2, address 0x0D (R14). -/
  | alarm2_2
  /-- CONTROL, address 0x0E (R14). -/
  | control
  /-- STATUS, address 0x0F (R14). -/
  | status
  /-- AGINGOFFSET, address 0x10 (R14). -/
  | agingOffset
  /-- TEMPMSB, address 0x11 (R14). -/
  | tempMsb
  /-- UNDEF_12, address 0x12 (R14). -/
  | undef12
  /-- TEMPCONV, address 0x13 (R14). -/
  | tempConv
  /-- UNDEF_HI, address 0x14..0xFF (R14). -/
  | undefHi
  deriving DecidableEq, Repr

/-- The classes of R14 and R15. -/
inductive RegClass where
  /-- One of the nine addresses that carry behaviour: Seconds..Year, Control, Status. -/
  | behavioural
  /-- Named plain storage. -/
  | inert
  /-- An address the source does not enumerate; it behaves as an inert one (R15, R34). -/
  | undefined
  deriving DecidableEq, Repr

/-- The class column of R14. -/
def RegName.cls : RegName → RegClass
  | .seconds => .behavioural
  | .minutes => .behavioural
  | .hours => .behavioural
  | .dayOfWeek => .behavioural
  | .dayOfMonth => .behavioural
  | .month => .behavioural
  | .year => .behavioural
  | .alarm1_0 => .inert
  | .alarm1_1 => .inert
  | .alarm1_2 => .inert
  | .alarm1_3 => .inert
  | .alarm2_0 => .inert
  | .alarm2_1 => .inert
  | .alarm2_2 => .inert
  | .control => .behavioural
  | .status => .behavioural
  | .agingOffset => .inert
  | .tempMsb => .inert
  | .undef12 => .undefined
  | .tempConv => .inert
  | .undefHi => .undefined

/-- One constructor per mnemonic of spec/opcode_table.json: the six operations of R3, the register writes and the
register reads of R56. `regwUndefHi` and `regrUndefHi` carry the address, which their table rows leave partly free. -/
inductive Instr where
  /-- NOP (R107). -/
  | nop
  /-- WRITE(bytes), any length at the operation level (R53, R102). -/
  | write (bytes : List Byte)
  /-- READ(count), an ignored natural number (R53, R103). -/
  | read (count : Nat)
  /-- END_TRANSACTION (R104). -/
  | endTransaction
  /-- TICK (R108). -/
  | tick
  /-- RESET (R106). -/
  | reset
  /-- REGW.SECONDS (R79). -/
  | regwSeconds (v : Byte)
  /-- REGW.MINUTES (R81). -/
  | regwMinutes (v : Byte)
  /-- REGW.HOURS (R83). -/
  | regwHours (v : Byte)
  /-- REGW.DAYOFWEEK (R85). -/
  | regwDayOfWeek (v : Byte)
  /-- REGW.DAYOFMONTH (R87). -/
  | regwDayOfMonth (v : Byte)
  /-- REGW.MONTH (R89). -/
  | regwMonth (v : Byte)
  /-- REGW.YEAR (R91). -/
  | regwYear (v : Byte)
  /-- REGW.ALARM1_0 (R97). -/
  | regwAlarm1_0 (v : Byte)
  /-- REGW.ALARM1_1 (R97). -/
  | regwAlarm1_1 (v : Byte)
  /-- REGW.ALARM1_2 (R97). -/
  | regwAlarm1_2 (v : Byte)
  /-- REGW.ALARM1_3 (R97). -/
  | regwAlarm1_3 (v : Byte)
  /-- REGW.ALARM2_0 (R97). -/
  | regwAlarm2_0 (v : Byte)
  /-- REGW.ALARM2_1 (R97). -/
  | regwAlarm2_1 (v : Byte)
  /-- REGW.ALARM2_2 (R97). -/
  | regwAlarm2_2 (v : Byte)
  /-- REGW.CONTROL (R93). -/
  | regwControl (v : Byte)
  /-- REGW.STATUS (R95). -/
  | regwStatus (v : Byte)
  /-- REGW.AGINGOFFSET (R97). -/
  | regwAgingOffset (v : Byte)
  /-- REGW.TEMPMSB (R97). -/
  | regwTempMsb (v : Byte)
  /-- REGW.UNDEF_12 (R97). -/
  | regwUndef12 (v : Byte)
  /-- REGW.TEMPCONV (R97). -/
  | regwTempConv (v : Byte)
  /-- REGW.UNDEF_HI (R97). -/
  | regwUndefHi (a v : Byte)
  /-- REGR.SECONDS (R80). -/
  | regrSeconds
  /-- REGR.MINUTES (R82). -/
  | regrMinutes
  /-- REGR.HOURS (R84). -/
  | regrHours
  /-- REGR.DAYOFWEEK (R86). -/
  | regrDayOfWeek
  /-- REGR.DAYOFMONTH (R88). -/
  | regrDayOfMonth
  /-- REGR.MONTH (R90). -/
  | regrMonth
  /-- REGR.YEAR (R92). -/
  | regrYear
  /-- REGR.ALARM1_0 (R98). -/
  | regrAlarm1_0
  /-- REGR.ALARM1_1 (R98). -/
  | regrAlarm1_1
  /-- REGR.ALARM1_2 (R98). -/
  | regrAlarm1_2
  /-- REGR.ALARM1_3 (R98). -/
  | regrAlarm1_3
  /-- REGR.ALARM2_0 (R98). -/
  | regrAlarm2_0
  /-- REGR.ALARM2_1 (R98). -/
  | regrAlarm2_1
  /-- REGR.ALARM2_2 (R98). -/
  | regrAlarm2_2
  /-- REGR.CONTROL (R94). -/
  | regrControl
  /-- REGR.STATUS (R96). -/
  | regrStatus
  /-- REGR.AGINGOFFSET (R98). -/
  | regrAgingOffset
  /-- REGR.TEMPMSB (R98). -/
  | regrTempMsb
  /-- REGR.UNDEF_12 (R98). -/
  | regrUndef12
  /-- REGR.TEMPCONV (R98). -/
  | regrTempConv
  /-- REGR.UNDEF_HI (R98). -/
  | regrUndefHi (a : Byte)
  deriving DecidableEq, Repr

/-- The decode space an instruction's words belong to (R60). -/
def Instr.space : Instr → Space
  | .nop | .write _ | .read _ | .endTransaction | .tick | .reset => .command
  | .regwSeconds _ => .regWrite
  | .regwMinutes _ => .regWrite
  | .regwHours _ => .regWrite
  | .regwDayOfWeek _ => .regWrite
  | .regwDayOfMonth _ => .regWrite
  | .regwMonth _ => .regWrite
  | .regwYear _ => .regWrite
  | .regwAlarm1_0 _ => .regWrite
  | .regwAlarm1_1 _ => .regWrite
  | .regwAlarm1_2 _ => .regWrite
  | .regwAlarm1_3 _ => .regWrite
  | .regwAlarm2_0 _ => .regWrite
  | .regwAlarm2_1 _ => .regWrite
  | .regwAlarm2_2 _ => .regWrite
  | .regwControl _ => .regWrite
  | .regwStatus _ => .regWrite
  | .regwAgingOffset _ => .regWrite
  | .regwTempMsb _ => .regWrite
  | .regwUndef12 _ => .regWrite
  | .regwTempConv _ => .regWrite
  | .regwUndefHi _ _ => .regWrite
  | .regrSeconds => .regRead
  | .regrMinutes => .regRead
  | .regrHours => .regRead
  | .regrDayOfWeek => .regRead
  | .regrDayOfMonth => .regRead
  | .regrMonth => .regRead
  | .regrYear => .regRead
  | .regrAlarm1_0 => .regRead
  | .regrAlarm1_1 => .regRead
  | .regrAlarm1_2 => .regRead
  | .regrAlarm1_3 => .regRead
  | .regrAlarm2_0 => .regRead
  | .regrAlarm2_1 => .regRead
  | .regrAlarm2_2 => .regRead
  | .regrControl => .regRead
  | .regrStatus => .regRead
  | .regrAgingOffset => .regRead
  | .regrTempMsb => .regRead
  | .regrUndef12 => .regRead
  | .regrTempConv => .regRead
  | .regrUndefHi _ => .regRead

end Sys2Proof
end

