-- ==== Sys2Proof/WellFormed.lean ====
section
/-! DEFINITION. Which instructions have words in the encoding of spec/30_encoding.md: one-byte lengths and counts
(R58, decision D26), and an UNDEF_HI address inside 0x14..0xFF (R56). -/

namespace Sys2Proof

/-- `i` has an encoding: a WRITE of at most 255 bytes, a READ count of at most 255 (R58), an UNDEF_HI address of at
least 0x14 (R56). Longer WRITEs and larger counts exist at the operation level only (D26). -/
def Instr.wellFormed : Instr → Bool
  | .nop | .endTransaction | .tick | .reset => true
  | .write bytes => bytes.length ≤ 255
  | .read count => count ≤ 255
  | .regwSeconds _ => true
  | .regwMinutes _ => true
  | .regwHours _ => true
  | .regwDayOfWeek _ => true
  | .regwDayOfMonth _ => true
  | .regwMonth _ => true
  | .regwYear _ => true
  | .regwAlarm1_0 _ => true
  | .regwAlarm1_1 _ => true
  | .regwAlarm1_2 _ => true
  | .regwAlarm1_3 _ => true
  | .regwAlarm2_0 _ => true
  | .regwAlarm2_1 _ => true
  | .regwAlarm2_2 _ => true
  | .regwControl _ => true
  | .regwStatus _ => true
  | .regwAgingOffset _ => true
  | .regwTempMsb _ => true
  | .regwUndef12 _ => true
  | .regwTempConv _ => true
  | .regwUndefHi a _ => 0x14 ≤ a.toNat
  | .regrSeconds => true
  | .regrMinutes => true
  | .regrHours => true
  | .regrDayOfWeek => true
  | .regrDayOfMonth => true
  | .regrMonth => true
  | .regrYear => true
  | .regrAlarm1_0 => true
  | .regrAlarm1_1 => true
  | .regrAlarm1_2 => true
  | .regrAlarm1_3 => true
  | .regrAlarm2_0 => true
  | .regrAlarm2_1 => true
  | .regrAlarm2_2 => true
  | .regrControl => true
  | .regrStatus => true
  | .regrAgingOffset => true
  | .regrTempMsb => true
  | .regrUndef12 => true
  | .regrTempConv => true
  | .regrUndefHi a => 0x14 ≤ a.toNat

end Sys2Proof
end

