-- ==== Sys2Proof/Decode.lean ====
section
/-! DEFINITION. Decoding and encoding (spec/30_encoding.md): register addresses (R56), command frames (R58, R59, R61),
register words (R60), the numbering of spec/opcode_table.json, and the pseudo-operations of R64. -/

namespace Sys2Proof

/-- Why bytes spell no operation. -/
inductive DecodeError where
  /-- Nothing is left to decode. -/
  | empty
  /-- A byte 0x06..0xFF in opcode position (R61). -/
  | reserved (opcode : Byte)
  /-- The bytes end inside a frame or a register word (R59). -/
  | truncated
  deriving DecidableEq, Repr

/-- Register address decoding: an exact match for 0x00..0x13, the range 0x14..0xFF otherwise (R56). -/
def RegName.ofAddr (a : Byte) : RegName :=
  match a.toNat with
  | 0x00 => .seconds
  | 0x01 => .minutes
  | 0x02 => .hours
  | 0x03 => .dayOfWeek
  | 0x04 => .dayOfMonth
  | 0x05 => .month
  | 0x06 => .year
  | 0x07 => .alarm1_0
  | 0x08 => .alarm1_1
  | 0x09 => .alarm1_2
  | 0x0A => .alarm1_3
  | 0x0B => .alarm2_0
  | 0x0C => .alarm2_1
  | 0x0D => .alarm2_2
  | 0x0E => .control
  | 0x0F => .status
  | 0x10 => .agingOffset
  | 0x11 => .tempMsb
  | 0x12 => .undef12
  | 0x13 => .tempConv
  | _ => .undefHi

/-- The address column of R14: whether address `a` belongs to the register. -/
def RegName.covers (r : RegName) (a : Byte) : Bool :=
  match r with
  | .seconds => a == 0x00
  | .minutes => a == 0x01
  | .hours => a == 0x02
  | .dayOfWeek => a == 0x03
  | .dayOfMonth => a == 0x04
  | .month => a == 0x05
  | .year => a == 0x06
  | .alarm1_0 => a == 0x07
  | .alarm1_1 => a == 0x08
  | .alarm1_2 => a == 0x09
  | .alarm1_3 => a == 0x0A
  | .alarm2_0 => a == 0x0B
  | .alarm2_1 => a == 0x0C
  | .alarm2_2 => a == 0x0D
  | .control => a == 0x0E
  | .status => a == 0x0F
  | .agingOffset => a == 0x10
  | .tempMsb => a == 0x11
  | .undef12 => a == 0x12
  | .tempConv => a == 0x13
  | .undefHi => decide (0x14 ≤ a.toNat)

/-- The address, match and mask columns of the REGW and REGR rows of spec/opcode_table.json: one row per address
0x00..0x13 and five mask rows for 0x14..0xFF (R56, R60). -/
def regRows : List (RegName × Byte × Byte) :=
  [(.seconds, 0x00, 0xFF),
   (.minutes, 0x01, 0xFF),
   (.hours, 0x02, 0xFF),
   (.dayOfWeek, 0x03, 0xFF),
   (.dayOfMonth, 0x04, 0xFF),
   (.month, 0x05, 0xFF),
   (.year, 0x06, 0xFF),
   (.alarm1_0, 0x07, 0xFF),
   (.alarm1_1, 0x08, 0xFF),
   (.alarm1_2, 0x09, 0xFF),
   (.alarm1_3, 0x0A, 0xFF),
   (.alarm2_0, 0x0B, 0xFF),
   (.alarm2_1, 0x0C, 0xFF),
   (.alarm2_2, 0x0D, 0xFF),
   (.control, 0x0E, 0xFF),
   (.status, 0x0F, 0xFF),
   (.agingOffset, 0x10, 0xFF),
   (.tempMsb, 0x11, 0xFF),
   (.undef12, 0x12, 0xFF),
   (.tempConv, 0x13, 0xFF)]
  ++ [(.undefHi, 0x14, 0xFC), (.undefHi, 0x18, 0xF8), (.undefHi, 0x20, 0xE0), (.undefHi, 0x40, 0xC0), (.undefHi, 0x80, 0x80)]

/-- The register write of the register named `r` at address `a` with data byte `v` (R56). -/
def RegName.writeInstr (r : RegName) (a v : Byte) : Instr :=
  match r with
  | .seconds => .regwSeconds v
  | .minutes => .regwMinutes v
  | .hours => .regwHours v
  | .dayOfWeek => .regwDayOfWeek v
  | .dayOfMonth => .regwDayOfMonth v
  | .month => .regwMonth v
  | .year => .regwYear v
  | .alarm1_0 => .regwAlarm1_0 v
  | .alarm1_1 => .regwAlarm1_1 v
  | .alarm1_2 => .regwAlarm1_2 v
  | .alarm1_3 => .regwAlarm1_3 v
  | .alarm2_0 => .regwAlarm2_0 v
  | .alarm2_1 => .regwAlarm2_1 v
  | .alarm2_2 => .regwAlarm2_2 v
  | .control => .regwControl v
  | .status => .regwStatus v
  | .agingOffset => .regwAgingOffset v
  | .tempMsb => .regwTempMsb v
  | .undef12 => .regwUndef12 v
  | .tempConv => .regwTempConv v
  | .undefHi => .regwUndefHi a v

/-- The register read of the register named `r` at address `a` (R56). -/
def RegName.readInstr (r : RegName) (a : Byte) : Instr :=
  match r with
  | .seconds => .regrSeconds
  | .minutes => .regrMinutes
  | .hours => .regrHours
  | .dayOfWeek => .regrDayOfWeek
  | .dayOfMonth => .regrDayOfMonth
  | .month => .regrMonth
  | .year => .regrYear
  | .alarm1_0 => .regrAlarm1_0
  | .alarm1_1 => .regrAlarm1_1
  | .alarm1_2 => .regrAlarm1_2
  | .alarm1_3 => .regrAlarm1_3
  | .alarm2_0 => .regrAlarm2_0
  | .alarm2_1 => .regrAlarm2_1
  | .alarm2_2 => .regrAlarm2_2
  | .control => .regrControl
  | .status => .regrStatus
  | .agingOffset => .regrAgingOffset
  | .tempMsb => .regrTempMsb
  | .undef12 => .regrUndef12
  | .tempConv => .regrTempConv
  | .undefHi => .regrUndefHi a

/-- The first command frame of a command stream and the bytes after it (R58, R59, R61). -/
def decodeCommand : List Byte → Except DecodeError (Instr × List Byte)
  | [] => .error .empty
  | op :: rest =>
    match op.toNat with
    | 0x00 => .ok (.nop, rest)
    | 0x01 =>
      match rest with
      | [] => .error .truncated
      | n :: tail => if tail.length < n.toNat then .error .truncated else .ok (.write (tail.take n.toNat), tail.drop n.toNat)
    | 0x02 =>
      match rest with
      | [] => .error .truncated
      | n :: tail => .ok (.read n.toNat, tail)
    | 0x03 => .ok (.endTransaction, rest)
    | 0x04 => .ok (.tick, rest)
    | 0x05 => .ok (.reset, rest)
    | _ => .error (.reserved op)

/-- The first register write word, address byte then data byte (R60), and the bytes after it. -/
def decodeRegWrite : List Byte → Except DecodeError (Instr × List Byte)
  | [] => .error .empty
  | [_] => .error .truncated
  | a :: v :: rest => .ok ((RegName.ofAddr a).writeInstr a v, rest)

/-- The first register read word, one address byte (R60), and the bytes after it. -/
def decodeRegRead : List Byte → Except DecodeError (Instr × List Byte)
  | [] => .error .empty
  | a :: rest => .ok ((RegName.ofAddr a).readInstr a, rest)

/-- The decoder: total on any bytes in each of the three spaces (R60). -/
def decode (sp : Space) (bytes : List Byte) : Except DecodeError (Instr × List Byte) :=
  match sp with
  | .command => decodeCommand bytes
  | .regWrite => decodeRegWrite bytes
  | .regRead => decodeRegRead bytes

/-- The bytes of an instruction in its space (R56, R58, R60). -/
def encode : Instr → List Byte
  | .nop => [0x00]
  | .write bytes => 0x01 :: BitVec.ofNat 8 bytes.length :: bytes
  | .read count => [0x02, BitVec.ofNat 8 count]
  | .endTransaction => [0x03]
  | .tick => [0x04]
  | .reset => [0x05]
  | .regwSeconds v => [0x00, v]
  | .regwMinutes v => [0x01, v]
  | .regwHours v => [0x02, v]
  | .regwDayOfWeek v => [0x03, v]
  | .regwDayOfMonth v => [0x04, v]
  | .regwMonth v => [0x05, v]
  | .regwYear v => [0x06, v]
  | .regwAlarm1_0 v => [0x07, v]
  | .regwAlarm1_1 v => [0x08, v]
  | .regwAlarm1_2 v => [0x09, v]
  | .regwAlarm1_3 v => [0x0A, v]
  | .regwAlarm2_0 v => [0x0B, v]
  | .regwAlarm2_1 v => [0x0C, v]
  | .regwAlarm2_2 v => [0x0D, v]
  | .regwControl v => [0x0E, v]
  | .regwStatus v => [0x0F, v]
  | .regwAgingOffset v => [0x10, v]
  | .regwTempMsb v => [0x11, v]
  | .regwUndef12 v => [0x12, v]
  | .regwTempConv v => [0x13, v]
  | .regwUndefHi a v => [a, v]
  | .regrSeconds => [0x00]
  | .regrMinutes => [0x01]
  | .regrHours => [0x02]
  | .regrDayOfWeek => [0x03]
  | .regrDayOfMonth => [0x04]
  | .regrMonth => [0x05]
  | .regrYear => [0x06]
  | .regrAlarm1_0 => [0x07]
  | .regrAlarm1_1 => [0x08]
  | .regrAlarm1_2 => [0x09]
  | .regrAlarm1_3 => [0x0A]
  | .regrAlarm2_0 => [0x0B]
  | .regrAlarm2_1 => [0x0C]
  | .regrAlarm2_2 => [0x0D]
  | .regrControl => [0x0E]
  | .regrStatus => [0x0F]
  | .regrAgingOffset => [0x10]
  | .regrTempMsb => [0x11]
  | .regrUndef12 => [0x12]
  | .regrTempConv => [0x13]
  | .regrUndefHi a => [a]

/-- How many bytes a frame or word takes: 1, 2 or 2 + n for a command (R58, R59), 2 for a register write, 1 for a
register read (R60). -/
def Instr.length : Instr → Nat
  | .nop | .endTransaction | .tick | .reset => 1
  | .write bytes => 2 + bytes.length
  | .read _ => 2
  | .regwSeconds _ => 2
  | .regwMinutes _ => 2
  | .regwHours _ => 2
  | .regwDayOfWeek _ => 2
  | .regwDayOfMonth _ => 2
  | .regwMonth _ => 2
  | .regwYear _ => 2
  | .regwAlarm1_0 _ => 2
  | .regwAlarm1_1 _ => 2
  | .regwAlarm1_2 _ => 2
  | .regwAlarm1_3 _ => 2
  | .regwAlarm2_0 _ => 2
  | .regwAlarm2_1 _ => 2
  | .regwAlarm2_2 _ => 2
  | .regwControl _ => 2
  | .regwStatus _ => 2
  | .regwAgingOffset _ => 2
  | .regwTempMsb _ => 2
  | .regwUndef12 _ => 2
  | .regwTempConv _ => 2
  | .regwUndefHi _ _ => 2
  | .regrSeconds => 1
  | .regrMinutes => 1
  | .regrHours => 1
  | .regrDayOfWeek => 1
  | .regrDayOfMonth => 1
  | .regrMonth => 1
  | .regrYear => 1
  | .regrAlarm1_0 => 1
  | .regrAlarm1_1 => 1
  | .regrAlarm1_2 => 1
  | .regrAlarm1_3 => 1
  | .regrAlarm2_0 => 1
  | .regrAlarm2_1 => 1
  | .regrAlarm2_2 => 1
  | .regrControl => 1
  | .regrStatus => 1
  | .regrAgingOffset => 1
  | .regrTempMsb => 1
  | .regrUndef12 => 1
  | .regrTempConv => 1
  | .regrUndefHi _ => 1

/-- The space and the bytes that a table row's bits `w` of `nbits` bits stand for. A 16-bit row is a register write,
address in the high byte (R60). An 8-bit row is a command frame for 0x00..0x05, with the zero operand byte WRITE and
READ need, and a register read otherwise: the table uses 0x00..0x05 in both spaces (R60) and the command wins here.
DESIGN CHOICE, log 3. -/
def tableLayout (nbits w : Nat) : Space × List Byte :=
  if nbits = 16 then (.regWrite, [BitVec.ofNat 8 (w / 256), BitVec.ofNat 8 w])
  else if w = 1 ∨ w = 2 then (.command, [BitVec.ofNat 8 w, 0x00])
  else if w < 6 then (.command, [BitVec.ofNat 8 w])
  else (.regRead, [BitVec.ofNat 8 w])

/-- What the decoder reads from the bits of a row of spec/opcode_table.json; the table's rows have 8 or 16 bits. -/
def decodeTableWord (nbits w : Nat) : Option Instr :=
  if nbits = 8 ∨ nbits = 16 then
    match decode (tableLayout nbits w).1 (tableLayout nbits w).2 with
    | .ok (i, _) => some i
    | .error _ => none
  else none

/-- The pseudo-operation `set_ptr(a)` (R64). -/
def pseudoSetPtr (a : Byte) : List Instr := [.write [a]]

/-- The pseudo-operation `wr(a, b1, .., bk)` (R64). -/
def pseudoWr (a : Byte) (data : List Byte) : List Instr := [.write (a :: data), .endTransaction]

/-- The pseudo-operation `rd(a)` (R64). -/
def pseudoRd (a : Byte) : List Instr := [.write [a], .read 1, .endTransaction]

/-- The pseudo-operation `rd_time()` (R64). -/
def pseudoRdTime : List Instr := [.write [0x00], .read 7, .endTransaction]

/-- The pseudo-operation `ticks(k)` (R64). -/
def pseudoTicks (k : Nat) : List Instr := List.replicate k .tick

end Sys2Proof
end

