-- ==== Sys2Proof/Machine/State.lean ====
section
/-! DEFINITION. The state of spec/10_state.md R13 as plain data (`Device`), the model's own input and output fields
around it (`State`), the reasons a step can stop, and the state after reset (R37). -/

namespace Sys2Proof.Machine

/-- The stored bytes x[0..255] (R17): the cells that differ from their reset contents, addresses strictly rising.
The canonical form is `Memory.wf`; what an unlisted address reads as is `Memory.unlisted`. -/
abbrev Memory := List Host.Cell

/-- The calendar counters (R21), plain binary integers, not BCD. Widths: decision D4, log 15. -/
structure Calendar where
  second     : Byte
  minute     : Byte
  hour       : Byte
  dayOfWeek  : Weekday
  dayOfMonth : Byte
  month      : Byte
  year       : Year
  deriving DecidableEq, Repr

/-- The four flags (R22). `oscEn` is also the tick source's enabled state (R35). -/
structure Flags where
  oscEn   : Bool
  pm20    : Bool
  mode12  : Bool
  century : Bool
  deriving DecidableEq, Repr

/-- The complete state of the hardware (R13): nothing else persists from one operation to the next. -/
structure Device where
  x    : Memory
  ptr  : Option Byte
  cal  : Calendar
  flag : Flags
  deriving DecidableEq, Repr

/-- The diagnostic codes (R114); each operation yields exactly one. -/
inductive Diag where
  /-- DIAG_NONE: every operation that succeeds. -/
  | none
  /-- WARN_EMPTY_WRITE: a WRITE with zero bytes (R116). -/
  | warnEmptyWrite
  /-- ERR_READ_UNADDRESSED: a READ while ptr = None (R115). -/
  | errReadUnaddressed
  deriving DecidableEq, Repr

/-- The device, with what the step of Host/Core.lean has no argument or result for: the bytes delivered and not yet
consumed, the decode space they are read in, and the outputs of the last operation (R11). -/
structure State where
  /-- The hardware's state (R13). -/
  dev : Device
  /-- The model's own: the space `stream` is read in. DESIGN CHOICE, log 2. -/
  port : Space
  /-- The model's own: delivered bytes, first to come first. DESIGN CHOICE, log 1. -/
  stream : List Byte
  /-- The model's own: the bytes the last operation returned (R10, R11). DESIGN CHOICE, log 4. -/
  out : List Byte
  /-- The model's own: the code the last operation yielded (R114). DESIGN CHOICE, log 4. -/
  diag : Diag
  deriving DecidableEq, Repr

/-- No operation faults: there is no fault, trap, stuck state or hang (R12, R112). The type has no constructor. -/
inductive Fault
  deriving DecidableEq, Repr

/-- Why a step gives no next state. -/
inductive Refusal where
  /-- Raised by an arm of `exec` whose instruction has no meaning yet; no arm does. Safe. -/
  | notModelled (mnemonic : String)
  /-- Raised by `step` on the command port: a byte 0x06..0xFF in opcode position spells no operation and the stream
  is refused from it on (R61). Safe. -/
  | reservedOpcode (opcode : Byte)
  /-- Raised by `step`: the stream ends inside a frame, and no operation is delivered for that tail (R59). Safe. -/
  | truncatedFrame
  /-- Raised by `step`: the host has delivered no operation (R139). Safe; DESIGN CHOICE, log 5. -/
  | noOperation
  deriving DecidableEq, Repr

/-- `CAL_RESET` (R7, R37). DESIGN CHOICE of the spec (decision D13), log 8. -/
def Calendar.reset : Calendar :=
  { second := 0, minute := 0, hour := 0, dayOfWeek := 1, dayOfMonth := 1, month := 1, year := 2000 }

/-- The flags after reset (R37); `oscEn` from the source, the others by decision D13, log 8. -/
def Flags.reset : Flags :=
  { oscEn := true, pm20 := false, mode12 := false, century := false }

/-- The device after reset, and at construction (R37, R126): every stored byte at its reset contents. -/
def Device.reset : Device :=
  { x := [], ptr := none, cal := Calendar.reset, flag := Flags.reset }

/-- The machine right after reset: the device of R37, nothing delivered, nothing answered. -/
def State.reset : State :=
  { dev := Device.reset, port := .command, stream := [], out := [], diag := .none }

end Sys2Proof.Machine
end

