-- ==== Sys2Proof/Machine/Ops.lean ====
section
/-! DEFINITION. The named operations over the stored bytes, the device and the machine's answer. The hardware takes no
exception (R112, R119) and has nothing to return from (R120): what stands in their place is one operation, raising a
diagnostic (`State.raiseDiag`, R114). -/

namespace Sys2Proof.Machine

/-- What an unlisted address reads as: its reset contents (R37). Everything but CONTROL and STATUS is the spec's
decision D13, log 7. -/
def Memory.unlisted (a : Nat) : Byte :=
  if a = 0x0E then Config.controlReset else if a = 0x0F then Config.statusReset else Config.inertReset

/-- The byte at `a`. -/
def Memory.read (a : Nat) : Memory → Byte
  | [] => Memory.unlisted a
  | (b, w) :: m => if a = b then w else Memory.read a m

/-- The cells other than those at `a`. -/
def Memory.drop (a : Nat) : Memory → Memory
  | [] => []
  | (b, w) :: m => if a = b then Memory.drop a m else (b, w) :: Memory.drop a m

/-- A cell put before the first larger address. -/
def Memory.insert (a : Nat) (v : Byte) : Memory → Memory
  | [] => [(a, v)]
  | (b, w) :: m => if a < b then (a, v) :: (b, w) :: m else (b, w) :: Memory.insert a v m

/-- Writing `v` at `a`, keeping the canonical form: a reset value is not listed. -/
def Memory.write (a : Nat) (v : Byte) (m : Memory) : Memory :=
  if v = Memory.unlisted a then Memory.drop a m else Memory.insert a v (Memory.drop a m)

/-- `m` lists addresses from `lo` up, strictly rising and below 256, and no cell equal to its reset contents. -/
def Memory.wfFrom (lo : Nat) : Memory → Bool
  | [] => true
  | (a, v) :: m => decide (lo ≤ a) && decide (a < 256) && decide (v ≠ Memory.unlisted a) && Memory.wfFrom (a + 1) m

/-- The canonical form of the stored bytes. -/
def Memory.wf (m : Memory) : Bool := Memory.wfFrom 0 m

/-- `x[a]`, the stored byte at `a` (R10, R17): raw storage. -/
def Device.load (d : Device) (a : Byte) : Byte := Memory.read a.toNat d.x

/-- `x[a] <- v` (R10, R17). -/
def Device.store (d : Device) (a v : Byte) : Device := { d with x := Memory.write a.toNat v d.x }

/-- `ptr <- p` (R10, R20). -/
def Device.setPtr (d : Device) (p : Option Byte) : Device := { d with ptr := p }

/-- The calendar replaced (R78). -/
def Device.setCal (d : Device) (c : Calendar) : Device := { d with cal := c }

/-- The flags replaced (R10, R23). -/
def Device.setFlag (d : Device) (f : Flags) : Device := { d with flag := f }

/-- The tick source's enabled state, always `flag.osc_en` (R35). -/
def Device.tickSourceEnabled (d : Device) : Bool := d.flag.oscEn

/-- The device after RESET from any state (R106): every field assigned. -/
def Device.toReset (_ : Device) : Device :=
  { x := []
    ptr := none
    cal := { second := 0, minute := 0, hour := 0, dayOfWeek := 1, dayOfMonth := 1, month := 1, year := 2000 }
    flag := { oscEn := true, pm20 := false, mode12 := false, century := false } }

/-- An operation completes: the device it leaves, the bytes it returns, and DIAG_NONE (R11, R114). -/
def State.finish (s : State) (d : Device) (out : List Byte) : Host.Outcome State Fault Refusal :=
  .next { s with dev := d, out := out, diag := .none }

/-- `raise Diag(code)` (R10, R114, R119): the code is an output, no byte is returned, the device is exactly what it
was, control goes nowhere and nothing is saved. -/
def State.raiseDiag (s : State) (code : Diag) : Host.Outcome State Fault Refusal :=
  .next { s with out := [], diag := code }

/-- The numeric codes of R114 (decision D20). -/
def Diag.code : Diag → Nat
  | .none => 0
  | .warnEmptyWrite => 1
  | .errReadUnaddressed => 2

/-- The severities of R114. -/
inductive Severity where
  | none
  | warning
  | error
  deriving DecidableEq, Repr

/-- The severity column of R114. -/
def Diag.severity : Diag → Severity
  | .none => .none
  | .warnEmptyWrite => .warning
  | .errReadUnaddressed => .error

/-- The refusal that stands for a decoder's verdict (R59, R61; an empty stream: log 5). -/
def refusalOf : DecodeError → Refusal
  | .empty => .noOperation
  | .reserved op => .reservedOpcode op
  | .truncated => .truncatedFrame

end Sys2Proof.Machine
end

