-- ==== Sys2Proof/Machine/Operands.lean ====
section
/-! DEFINITION. The codec of spec/40_bcd_codec.md and every operand form of R57: the slices of a written byte and the
pieces a read byte is composed of. -/

namespace Sys2Proof.Machine

/-- `v[hi:lo]`, the unsigned value of bits hi down to lo (R8). -/
def slice (v : Byte) (hi lo : Nat) : Nat := (v.toNat >>> lo) % 2 ^ (hi + 1 - lo)

/-- `v[i]` as a Boolean, 1 = true (R8). -/
def bitAt (v : Byte) (i : Nat) : Bool := slice v i i == 1

/-- The concatenation with `lo[w-1:0]` as its less significant part (R8): the cut to the field's width happens here,
at the point of use (R67). -/
def cat (hi w lo : Nat) : Nat := hi * 2 ^ w + lo % 2 ^ w

/-- `decode(b)`: packed BCD to integer, nibbles not validated (R65). -/
def bcdDecode (b : Nat) : Nat := ((b &&& 0xFF) >>> 4) * 10 + (b &&& 0xF)

/-- `encode(value)`, which the source defines for 0..99 (R66). -/
def bcdEncode (value : Nat) : Nat := ((value / 10) <<< 4) ||| (value % 10)

/-- `ENC(u)`, the total extension of `encode` to 16-bit values (R67). Above 99 it is the spec's default for what the
source leaves undefined (`ENC_OVF`, decision D9). UNVERIFIED, unsafe, log 9. -/
def enc (u : Nat) : Nat := ((u / 10) <<< 4) ||| (u % 10)

/-- The operand of a SECONDS or MINUTES write, `decode(v[6:0])` (R57, R79, R81). Positions: decision D5, log 12. -/
def bcd7 (v : Byte) : Byte := BitVec.ofNat 8 (bcdDecode (slice v 6 0))

/-- The operand of an HOURS or DAYOFMONTH write, `decode(v[5:0])` (R57, R83, R87). Decisions D5, D6, log 12. -/
def bcd6 (v : Byte) : Byte := BitVec.ofNat 8 (bcdDecode (slice v 5 0))

/-- The operand of a MONTH write, `decode(v[4:0])` (R57, R89). Decision D5, log 12. -/
def bcd5 (v : Byte) : Byte := BitVec.ofNat 8 (bcdDecode (slice v 4 0))

/-- The operand of a DAYOFWEEK write, `v[2:0]` raw (R57, R85). Decision D5, log 12. -/
def rawWeekday (v : Byte) : Weekday := BitVec.ofNat 3 (slice v 2 0)

/-- The operand of a YEAR write: `trunc_16(2000 + decode(v) + (century ? 200 : 0))`, the century offset twice as the
source has it (R91, conflict C3). -/
def yearOperand (century : Bool) (v : Byte) : Year :=
  BitVec.ofNat 16 (Config.yearBase + bcdDecode v.toNat + (if century then 2 * Config.centuryOffset else 0))

/-- The year offset a YEAR read encodes: a 16-bit modular subtraction (R92, decision D8, log 9). -/
def yearOffset (century : Bool) (year : Year) : Nat :=
  (year - BitVec.ofNat 16 (Config.yearBase + (if century then Config.centuryOffset else 0))).toNat

end Sys2Proof.Machine
end

