-- ==== Sys2Proof/Machine/Flags.lean ====
section
/-! DEFINITION. Every flag computation of the spec (R22, R23, R75, R83, R89, R93). -/

namespace Sys2Proof.Machine

/-- `flag.pm20` after an advance: `hour >= 20`, literally (R75). -/
def pm20OfHour (hour : Byte) : Bool := decide (20 ≤ hour.toNat)

/-- The flags after a HOURS write: mode12 from v[6], pm20 from v[5] (R83). Positions: decision D6, log 12. -/
def Flags.afterHours (f : Flags) (v : Byte) : Flags := { f with mode12 := bitAt v 6, pm20 := bitAt v 5 }

/-- The flags after a MONTH write: century from v[7] (R89). Position: decision D7, log 12. -/
def Flags.afterMonth (f : Flags) (v : Byte) : Flags := { f with century := bitAt v 7 }

/-- The flags after a CONTROL write: EOSC = 1 stops the oscillator, in the same step (R93). -/
def Flags.afterControl (f : Flags) (v : Byte) : Flags := { f with oscEn := !bitAt v 7 }

/-- The flags after an advance: pm20 recomputed from the new hour, the other three untouched (R75, R77). -/
def Flags.afterAdvance (f : Flags) (hour : Byte) : Flags := { f with pm20 := pm20OfHour hour }

end Sys2Proof.Machine
end

