-- ==== Sys2Proof/Machine/Calendar.lean ====
section
/-! DEFINITION. calendar_advance_engine (spec/41_calendar_advance.md): the one-second advance and its helpers. The carry
rules are the spec's decisions D16 to D18 (logs 10, 11). -/

namespace Sys2Proof.Machine

/-- The Gregorian rule on the absolute year (R73). UNVERIFIED: the spec's decision D16, log 11. -/
def isLeap (y : Nat) : Bool := (y % 4 == 0 && y % 100 != 0) || y % 400 == 0

/-- `days_in_month(m, y)`, total: an out-of-range month has 31 days (R72). Decision D16, log 11. -/
def daysInMonth (m y : Nat) : Nat :=
  if m = 4 ∨ m = 6 ∨ m = 9 ∨ m = 11 then 30
  else if m = 2 then (if isLeap y then 29 else 28)
  else 31

/-- The weekday step at midnight: 7 and 0 go to 1 (R74); `DOW_ADVANCES` turns it off. Decision D17, log 11. -/
def stepWeekday (w : Weekday) : Weekday :=
  if Config.dowAdvances then (if 7 ≤ w.toNat then 1 else w + 1) else w

/-- The month carry, into the year at 12 or above (R71). -/
def Calendar.carryMonth (c : Calendar) : Calendar :=
  if 12 ≤ c.month.toNat then { c with month := 1, year := c.year + 1 } else { c with month := c.month + 1 }

/-- The day carry: the month's length is taken before the month or the year changes (R71). -/
def Calendar.carryDay (c : Calendar) : Calendar :=
  if daysInMonth c.month.toNat c.year.toNat ≤ c.dayOfMonth.toNat then Calendar.carryMonth { c with dayOfMonth := 1 }
  else { c with dayOfMonth := c.dayOfMonth + 1 }

/-- The hour carry: at 23 or above a new day begins and the weekday steps (R71, R74). -/
def Calendar.carryHour (c : Calendar) : Calendar :=
  if 23 ≤ c.hour.toNat then Calendar.carryDay { c with hour := 0, dayOfWeek := stepWeekday c.dayOfWeek }
  else { c with hour := c.hour + 1 }

/-- The minute carry (R71). -/
def Calendar.carryMinute (c : Calendar) : Calendar :=
  if 59 ≤ c.minute.toNat then Calendar.carryHour { c with minute := 0 } else { c with minute := c.minute + 1 }

/-- The calendar one second later (R71); a field at or above its threshold wraps and carries (R76, log 10). -/
def Calendar.advance (c : Calendar) : Calendar :=
  if 59 ≤ c.second.toNat then Calendar.carryMinute { c with second := 0 } else { c with second := c.second + 1 }

/-- `advance_one_second()` (R71): nothing at all while the oscillator is stopped; otherwise the calendar advances and
pm20 is recomputed from the new hour (R75). Nothing else is touched (R77). -/
def Device.advanceOneSecond (d : Device) : Device :=
  if d.flag.oscEn then
    (d.setCal d.cal.advance).setFlag (d.flag.afterAdvance d.cal.advance.hour)
  else d

end Sys2Proof.Machine
end

