-- ==== Sys2Proof/Machine/RegisterFile.lean ====
section
/-! DEFINITION. The register file (spec/42_register_access.md): what each register write does to the device, what each
register read composes, and the two dispatch functions RegWrite (R99) and RegRead (R100). Every write also stores the
whole byte (R18). -/

namespace Sys2Proof.Machine

/-- REGW.SECONDS (R79). -/
def regwSeconds (v : Byte) (d : Device) : Device :=
  (d.store 0x00 v).setCal { d.cal with second := bcd7 v }

/-- REGW.MINUTES (R81). -/
def regwMinutes (v : Byte) (d : Device) : Device :=
  (d.store 0x01 v).setCal { d.cal with minute := bcd7 v }

/-- REGW.HOURS (R83): the mode bit is only stored; bits 5:0 are a 24-hour BCD value whatever it says. -/
def regwHours (v : Byte) (d : Device) : Device :=
  ((d.store 0x02 v).setFlag (d.flag.afterHours v)).setCal { d.cal with hour := bcd6 v }

/-- REGW.DAYOFWEEK (R85). -/
def regwDayOfWeek (v : Byte) (d : Device) : Device :=
  (d.store 0x03 v).setCal { d.cal with dayOfWeek := rawWeekday v }

/-- REGW.DAYOFMONTH (R87). -/
def regwDayOfMonth (v : Byte) (d : Device) : Device :=
  (d.store 0x04 v).setCal { d.cal with dayOfMonth := bcd6 v }

/-- REGW.MONTH (R89): the century flag is set or cleared, the year is not moved (decision D7). -/
def regwMonth (v : Byte) (d : Device) : Device :=
  ((d.store 0x05 v).setFlag (d.flag.afterMonth v)).setCal { d.cal with month := bcd5 v }

/-- REGW.YEAR (R91): reads the century flag as it is at this moment. -/
def regwYear (v : Byte) (d : Device) : Device :=
  (d.store 0x06 v).setCal { d.cal with year := yearOperand d.flag.century v }

/-- REGW.CONTROL (R93): the tick source's enabled state follows in the same step (R35). -/
def regwControl (v : Byte) (d : Device) : Device :=
  (d.store 0x0E v).setFlag (d.flag.afterControl v)

/-- REGW.STATUS (R95): plain storage, no write-1-to-clear (decision D11, log 12). -/
def regwStatus (v : Byte) (d : Device) : Device := d.store 0x0F v

/-- A write to an inert or undefined address: simply stores the byte (R97). Undefined ones: decision D12, log 14. -/
def regwInert (a v : Byte) (d : Device) : Device := d.store a v

/-- REGR.SECONDS (R80). -/
def regrSeconds (d : Device) : Byte :=
  BitVec.ofNat 8 (cat (slice (d.load 0x00) 7 7) 7 (enc d.cal.second.toNat))

/-- REGR.MINUTES (R82). -/
def regrMinutes (d : Device) : Byte :=
  BitVec.ofNat 8 (cat (slice (d.load 0x01) 7 7) 7 (enc d.cal.minute.toNat))

/-- REGR.HOURS (R84). -/
def regrHours (d : Device) : Byte :=
  BitVec.ofNat 8
    (cat (cat (cat (slice (d.load 0x02) 7 7) 1 d.flag.mode12.toNat) 1 d.flag.pm20.toNat) 5 (enc d.cal.hour.toNat))

/-- REGR.DAYOFWEEK (R86). -/
def regrDayOfWeek (d : Device) : Byte :=
  BitVec.ofNat 8 (cat (slice (d.load 0x03) 7 3) 3 d.cal.dayOfWeek.toNat)

/-- REGR.DAYOFMONTH (R88). -/
def regrDayOfMonth (d : Device) : Byte :=
  BitVec.ofNat 8 (cat (slice (d.load 0x04) 7 6) 6 (enc d.cal.dayOfMonth.toNat))

/-- REGR.MONTH (R90). -/
def regrMonth (d : Device) : Byte :=
  BitVec.ofNat 8 (cat (cat d.flag.century.toNat 2 (slice (d.load 0x05) 6 5)) 5 (enc d.cal.month.toNat))

/-- REGR.YEAR (R92). -/
def regrYear (d : Device) : Byte :=
  BitVec.ofNat 8 (enc (yearOffset d.flag.century d.cal.year))

/-- REGR.CONTROL (R94): bit 7 is the complement of osc_en, bits 6:0 are stored. -/
def regrControl (d : Device) : Byte :=
  BitVec.ofNat 8 (cat (!d.flag.oscEn).toNat 7 (slice (d.load 0x0E) 6 0))

/-- REGR.STATUS (R96). -/
def regrStatus (d : Device) : Byte := d.load 0x0F

/-- A read of an inert or undefined address: its stored byte (R98). -/
def regrInert (a : Byte) (d : Device) : Byte := d.load a

/-- `RegWrite(a, v)` (R99): total; every other address stores the byte. -/
def regWrite (a v : Byte) (d : Device) : Device :=
  match RegName.ofAddr a with
  | .seconds => regwSeconds v d
  | .minutes => regwMinutes v d
  | .hours => regwHours v d
  | .dayOfWeek => regwDayOfWeek v d
  | .dayOfMonth => regwDayOfMonth v d
  | .month => regwMonth v d
  | .year => regwYear v d
  | .control => regwControl v d
  | .status => regwStatus v d
  | .alarm1_0 | .alarm1_1 | .alarm1_2 | .alarm1_3 | .alarm2_0 | .alarm2_1 | .alarm2_2 | .agingOffset | .tempMsb
  | .undef12 | .tempConv | .undefHi => regwInert a v d

/-- `RegRead(a)` (R100): total; changes no state (R43). -/
def regRead (a : Byte) (d : Device) : Byte :=
  match RegName.ofAddr a with
  | .seconds => regrSeconds d
  | .minutes => regrMinutes d
  | .hours => regrHours d
  | .dayOfWeek => regrDayOfWeek d
  | .dayOfMonth => regrDayOfMonth d
  | .month => regrMonth d
  | .year => regrYear d
  | .control => regrControl d
  | .status => regrStatus d
  | .alarm1_0 | .alarm1_1 | .alarm1_2 | .alarm1_3 | .alarm2_0 | .alarm2_1 | .alarm2_2 | .agingOffset | .tempMsb
  | .undef12 | .tempConv | .undefHi => regrInert a d

end Sys2Proof.Machine
end

