-- ==== Sys2Proof/Machine/Bus.lean ====
section
/-! DEFINITION. rtc_bus_transaction_controller (spec/43_bus_transactions.md): WRITE, READ, END_TRANSACTION. -/

namespace Sys2Proof.Machine

/-- The data bytes of a WRITE, in order from register `p`, post-incremented modulo 256, and the pointer one past the
last (R102). -/
def writeRegs : Byte → List Byte → Device → Device
  | p, [], d => d.setPtr (some p)
  | p, v :: vs, d => writeRegs (p + 1) vs (regWrite p v d)

/-- The burst: Seconds through Year in address order, all from one state (R103, R45). -/
def burst (d : Device) : List Byte :=
  [regRead 0x00 d, regRead 0x01 d, regRead 0x02 d, regRead 0x03 d, regRead 0x04 d, regRead 0x05 d, regRead 0x06 d]

/-- WRITE(bytes) (R102): the same in both controller states; an empty one only warns (R116). -/
def execWrite (bytes : List Byte) (s : State) : Host.Outcome State Fault Refusal :=
  match bytes with
  | [] => s.raiseDiag .warnEmptyWrite
  | a :: data => s.finish (writeRegs a data s.dev) []

/-- READ(count) (R103): the pointer alone decides the length, `count` is ignored; without a pointer it reports an error
and returns nothing (R115). The pointer is not changed. -/
def execRead (_count : Nat) (s : State) : Host.Outcome State Fault Refusal :=
  match s.dev.ptr with
  | none => s.raiseDiag .errReadUnaddressed
  | some a => if a = Config.burstBase then s.finish s.dev (burst s.dev) else s.finish s.dev [regRead a s.dev]

/-- END_TRANSACTION (R104): clears the pointer unconditionally. -/
def execEndTransaction (s : State) : Host.Outcome State Fault Refusal :=
  s.finish (s.dev.setPtr none) []

end Sys2Proof.Machine
end

