-- ==== Sys2Proof/Machine/RegisterReads.lean ====
section
/-! DEFINITION. The meanings of the register read micro-operations REGR.x (R80 to R98), each run on its own: the device
unchanged (R43), the one byte returned, no diagnostic. -/

namespace Sys2Proof.Machine

/-- REGR.SECONDS (R80). -/
def execRegrSeconds (s : State) : Host.Outcome State Fault Refusal :=
  s.finish s.dev [regrSeconds s.dev]

/-- REGR.MINUTES (R82). -/
def execRegrMinutes (s : State) : Host.Outcome State Fault Refusal :=
  s.finish s.dev [regrMinutes s.dev]

/-- REGR.HOURS (R84). -/
def execRegrHours (s : State) : Host.Outcome State Fault Refusal :=
  s.finish s.dev [regrHours s.dev]

/-- REGR.DAYOFWEEK (R86). -/
def execRegrDayOfWeek (s : State) : Host.Outcome State Fault Refusal :=
  s.finish s.dev [regrDayOfWeek s.dev]

/-- REGR.DAYOFMONTH (R88). -/
def execRegrDayOfMonth (s : State) : Host.Outcome State Fault Refusal :=
  s.finish s.dev [regrDayOfMonth s.dev]

/-- REGR.MONTH (R90). -/
def execRegrMonth (s : State) : Host.Outcome State Fault Refusal :=
  s.finish s.dev [regrMonth s.dev]

/-- REGR.YEAR (R92). -/
def execRegrYear (s : State) : Host.Outcome State Fault Refusal :=
  s.finish s.dev [regrYear s.dev]

/-- REGR.ALARM1_0 (R98). -/
def execRegrAlarm1_0 (s : State) : Host.Outcome State Fault Refusal :=
  s.finish s.dev [regrInert 0x07 s.dev]

/-- REGR.ALARM1_1 (R98). -/
def execRegrAlarm1_1 (s : State) : Host.Outcome State Fault Refusal :=
  s.finish s.dev [regrInert 0x08 s.dev]

/-- REGR.ALARM1_2 (R98). -/
def execRegrAlarm1_2 (s : State) : Host.Outcome State Fault Refusal :=
  s.finish s.dev [regrInert 0x09 s.dev]

/-- REGR.ALARM1_3 (R98). -/
def execRegrAlarm1_3 (s : State) : Host.Outcome State Fault Refusal :=
  s.finish s.dev [regrInert 0x0A s.dev]

/-- REGR.ALARM2_0 (R98). -/
def execRegrAlarm2_0 (s : State) : Host.Outcome State Fault Refusal :=
  s.finish s.dev [regrInert 0x0B s.dev]

/-- REGR.ALARM2_1 (R98). -/
def execRegrAlarm2_1 (s : State) : Host.Outcome State Fault Refusal :=
  s.finish s.dev [regrInert 0x0C s.dev]

/-- REGR.ALARM2_2 (R98). -/
def execRegrAlarm2_2 (s : State) : Host.Outcome State Fault Refusal :=
  s.finish s.dev [regrInert 0x0D s.dev]

/-- REGR.CONTROL (R94). -/
def execRegrControl (s : State) : Host.Outcome State Fault Refusal :=
  s.finish s.dev [regrControl s.dev]

/-- REGR.STATUS (R96). -/
def execRegrStatus (s : State) : Host.Outcome State Fault Refusal :=
  s.finish s.dev [regrStatus s.dev]

/-- REGR.AGINGOFFSET (R98). -/
def execRegrAgingOffset (s : State) : Host.Outcome State Fault Refusal :=
  s.finish s.dev [regrInert 0x10 s.dev]

/-- REGR.TEMPMSB (R98). -/
def execRegrTempMsb (s : State) : Host.Outcome State Fault Refusal :=
  s.finish s.dev [regrInert 0x11 s.dev]

/-- REGR.UNDEF_12 (R98). -/
def execRegrUndef12 (s : State) : Host.Outcome State Fault Refusal :=
  s.finish s.dev [regrInert 0x12 s.dev]

/-- REGR.TEMPCONV (R98). -/
def execRegrTempConv (s : State) : Host.Outcome State Fault Refusal :=
  s.finish s.dev [regrInert 0x13 s.dev]

/-- REGR.UNDEF_HI at an address 0x14..0xFF (R98); below 0x14 the instruction has no words (log 20). -/
def execRegrUndefHi (a : Byte) (s : State) : Host.Outcome State Fault Refusal :=
  s.finish s.dev [regrInert a s.dev]

end Sys2Proof.Machine
end

