-- ==== Sys2Proof/Machine/RegisterWrites.lean ====
section
/-! DEFINITION. The meanings of the register write micro-operations REGW.x (R79 to R97), each run on its own: the device
of the register file's write, no byte returned, no diagnostic. -/

namespace Sys2Proof.Machine

/-- REGW.SECONDS (R79). -/
def execRegwSeconds (v : Byte) (s : State) : Host.Outcome State Fault Refusal :=
  s.finish (regwSeconds v s.dev) []

/-- REGW.MINUTES (R81). -/
def execRegwMinutes (v : Byte) (s : State) : Host.Outcome State Fault Refusal :=
  s.finish (regwMinutes v s.dev) []

/-- REGW.HOURS (R83). -/
def execRegwHours (v : Byte) (s : State) : Host.Outcome State Fault Refusal :=
  s.finish (regwHours v s.dev) []

/-- REGW.DAYOFWEEK (R85). -/
def execRegwDayOfWeek (v : Byte) (s : State) : Host.Outcome State Fault Refusal :=
  s.finish (regwDayOfWeek v s.dev) []

/-- REGW.DAYOFMONTH (R87). -/
def execRegwDayOfMonth (v : Byte) (s : State) : Host.Outcome State Fault Refusal :=
  s.finish (regwDayOfMonth v s.dev) []

/-- REGW.MONTH (R89). -/
def execRegwMonth (v : Byte) (s : State) : Host.Outcome State Fault Refusal :=
  s.finish (regwMonth v s.dev) []

/-- REGW.YEAR (R91). -/
def execRegwYear (v : Byte) (s : State) : Host.Outcome State Fault Refusal :=
  s.finish (regwYear v s.dev) []

/-- REGW.ALARM1_0 (R97). -/
def execRegwAlarm1_0 (v : Byte) (s : State) : Host.Outcome State Fault Refusal :=
  s.finish (regwInert 0x07 v s.dev) []

/-- REGW.ALARM1_1 (R97). -/
def execRegwAlarm1_1 (v : Byte) (s : State) : Host.Outcome State Fault Refusal :=
  s.finish (regwInert 0x08 v s.dev) []

/-- REGW.ALARM1_2 (R97). -/
def execRegwAlarm1_2 (v : Byte) (s : State) : Host.Outcome State Fault Refusal :=
  s.finish (regwInert 0x09 v s.dev) []

/-- REGW.ALARM1_3 (R97). -/
def execRegwAlarm1_3 (v : Byte) (s : State) : Host.Outcome State Fault Refusal :=
  s.finish (regwInert 0x0A v s.dev) []

/-- REGW.ALARM2_0 (R97). -/
def execRegwAlarm2_0 (v : Byte) (s : State) : Host.Outcome State Fault Refusal :=
  s.finish (regwInert 0x0B v s.dev) []

/-- REGW.ALARM2_1 (R97). -/
def execRegwAlarm2_1 (v : Byte) (s : State) : Host.Outcome State Fault Refusal :=
  s.finish (regwInert 0x0C v s.dev) []

/-- REGW.ALARM2_2 (R97). -/
def execRegwAlarm2_2 (v : Byte) (s : State) : Host.Outcome State Fault Refusal :=
  s.finish (regwInert 0x0D v s.dev) []

/-- REGW.CONTROL (R93). -/
def execRegwControl (v : Byte) (s : State) : Host.Outcome State Fault Refusal :=
  s.finish (regwControl v s.dev) []

/-- REGW.STATUS (R95). -/
def execRegwStatus (v : Byte) (s : State) : Host.Outcome State Fault Refusal :=
  s.finish (regwStatus v s.dev) []

/-- REGW.AGINGOFFSET (R97). -/
def execRegwAgingOffset (v : Byte) (s : State) : Host.Outcome State Fault Refusal :=
  s.finish (regwInert 0x10 v s.dev) []

/-- REGW.TEMPMSB (R97). -/
def execRegwTempMsb (v : Byte) (s : State) : Host.Outcome State Fault Refusal :=
  s.finish (regwInert 0x11 v s.dev) []

/-- REGW.UNDEF_12 (R97). -/
def execRegwUndef12 (v : Byte) (s : State) : Host.Outcome State Fault Refusal :=
  s.finish (regwInert 0x12 v s.dev) []

/-- REGW.TEMPCONV (R97). -/
def execRegwTempConv (v : Byte) (s : State) : Host.Outcome State Fault Refusal :=
  s.finish (regwInert 0x13 v s.dev) []

/-- REGW.UNDEF_HI at an address 0x14..0xFF (R97); below 0x14 the instruction has no words (log 20). -/
def execRegwUndefHi (a v : Byte) (s : State) : Host.Outcome State Fault Refusal :=
  s.finish (regwInert a v s.dev) []

end Sys2Proof.Machine
end

