-- ==== Sys2Proof/Machine/System.lean ====
section
/-! DEFINITION. The system operations (spec/44_system_ops.md): RESET, NOP, TICK. -/

namespace Sys2Proof.Machine

/-- RESET (R106): the device's reset state from any state. What the host has still to deliver is not the device's. -/
def execReset (s : State) : Host.Outcome State Fault Refusal :=
  s.finish s.dev.toReset []

/-- NOP (R107): the identity on the device. -/
def execNop (s : State) : Host.Outcome State Fault Refusal :=
  s.finish s.dev []

/-- TICK (R108): one advance, which is the identity while the oscillator is stopped. -/
def execTick (s : State) : Host.Outcome State Fault Refusal :=
  s.finish s.dev.advanceOneSecond []

end Sys2Proof.Machine
end

