-- ==== Sys2Proof/Machine/Dispatch.lean ====
section
/-! DEFINITION. One arm per constructor of Instr (spec/opcode_table.json). -/

namespace Sys2Proof.Machine

def exec (i : Instr) (s : State) : Host.Outcome State Fault Refusal :=
  match i with
  | .nop => Sys2Proof.Machine.execNop s
  | .write bytes => Sys2Proof.Machine.execWrite bytes s
  | .read count => Sys2Proof.Machine.execRead count s
  | .endTransaction => Sys2Proof.Machine.execEndTransaction s
  | .tick => Sys2Proof.Machine.execTick s
  | .reset => Sys2Proof.Machine.execReset s
  | .regwSeconds v => Sys2Proof.Machine.execRegwSeconds v s
  | .regwMinutes v => Sys2Proof.Machine.execRegwMinutes v s
  | .regwHours v => Sys2Proof.Machine.execRegwHours v s
  | .regwDayOfWeek v => Sys2Proof.Machine.execRegwDayOfWeek v s
  | .regwDayOfMonth v => Sys2Proof.Machine.execRegwDayOfMonth v s
  | .regwMonth v => Sys2Proof.Machine.execRegwMonth v s
  | .regwYear v => Sys2Proof.Machine.execRegwYear v s
  | .regwAlarm1_0 v => Sys2Proof.Machine.execRegwAlarm1_0 v s
  | .regwAlarm1_1 v => Sys2Proof.Machine.execRegwAlarm1_1 v s
  | .regwAlarm1_2 v => Sys2Proof.Machine.execRegwAlarm1_2 v s
  | .regwAlarm1_3 v => Sys2Proof.Machine.execRegwAlarm1_3 v s
  | .regwAlarm2_0 v => Sys2Proof.Machine.execRegwAlarm2_0 v s
  | .regwAlarm2_1 v => Sys2Proof.Machine.execRegwAlarm2_1 v s
  | .regwAlarm2_2 v => Sys2Proof.Machine.execRegwAlarm2_2 v s
  | .regwControl v => Sys2Proof.Machine.execRegwControl v s
  | .regwStatus v => Sys2Proof.Machine.execRegwStatus v s
  | .regwAgingOffset v => Sys2Proof.Machine.execRegwAgingOffset v s
  | .regwTempMsb v => Sys2Proof.Machine.execRegwTempMsb v s
  | .regwUndef12 v => Sys2Proof.Machine.execRegwUndef12 v s
  | .regwTempConv v => Sys2Proof.Machine.execRegwTempConv v s
  | .regwUndefHi a v => Sys2Proof.Machine.execRegwUndefHi a v s
  | .regrSeconds => Sys2Proof.Machine.execRegrSeconds s
  | .regrMinutes => Sys2Proof.Machine.execRegrMinutes s
  | .regrHours => Sys2Proof.Machine.execRegrHours s
  | .regrDayOfWeek => Sys2Proof.Machine.execRegrDayOfWeek s
  | .regrDayOfMonth => Sys2Proof.Machine.execRegrDayOfMonth s
  | .regrMonth => Sys2Proof.Machine.execRegrMonth s
  | .regrYear => Sys2Proof.Machine.execRegrYear s
  | .regrAlarm1_0 => Sys2Proof.Machine.execRegrAlarm1_0 s
  | .regrAlarm1_1 => Sys2Proof.Machine.execRegrAlarm1_1 s
  | .regrAlarm1_2 => Sys2Proof.Machine.execRegrAlarm1_2 s
  | .regrAlarm1_3 => Sys2Proof.Machine.execRegrAlarm1_3 s
  | .regrAlarm2_0 => Sys2Proof.Machine.execRegrAlarm2_0 s
  | .regrAlarm2_1 => Sys2Proof.Machine.execRegrAlarm2_1 s
  | .regrAlarm2_2 => Sys2Proof.Machine.execRegrAlarm2_2 s
  | .regrControl => Sys2Proof.Machine.execRegrControl s
  | .regrStatus => Sys2Proof.Machine.execRegrStatus s
  | .regrAgingOffset => Sys2Proof.Machine.execRegrAgingOffset s
  | .regrTempMsb => Sys2Proof.Machine.execRegrTempMsb s
  | .regrUndef12 => Sys2Proof.Machine.execRegrUndef12 s
  | .regrTempConv => Sys2Proof.Machine.execRegrTempConv s
  | .regrUndefHi a => Sys2Proof.Machine.execRegrUndefHi a s

end Sys2Proof.Machine
end

