-- ==== Sys2Proof/Machine/Step.lean ====
section
/-! DEFINITION. One step: the first operation of the delivered bytes is decoded, consumed and executed whole (R11). -/

namespace Sys2Proof.Machine

/-- One step (R11): what the decoder reads at the front of the stream, in the port's space, is executed on the state
with those bytes consumed; what spells no operation is refused (R59, R61). -/
def step (s : State) : Host.Outcome State Fault Refusal :=
  match decode s.port s.stream with
  | .ok (i, rest) => exec i { s with stream := rest }
  | .error e => .refused (refusalOf e)

/-- `s` with the instruction of a table row delivered next: the row's space selected and its bytes put at the front of
the stream (logs 1 to 3). -/
def State.withFetchWord (s : State) (nbits w : Nat) : State :=
  { s with port := (tableLayout nbits w).1, stream := (tableLayout nbits w).2 ++ s.stream }

end Sys2Proof.Machine
end

