-- ==== Sys2Proof/Safety.lean ====
section
/-! DEFINITION. The terms in which statements speak: which registers an operation writes, what a run must keep (R36 and
the canonical form of the stored bytes), the natural ranges (R21), and the count of seconds a calendar stands for. -/

namespace Sys2Proof.Machine

/-- `t` has the bytes still to be delivered, and their space, as `s` has them. -/
abbrev SameInput (s t : State) : Prop := t.port = s.port ∧ t.stream = s.stream

/-- The last operation returned nothing and reported nothing. -/
abbrev Quiet (t : State) : Prop := t.out = [] ∧ t.diag = .none

/-- Stored byte `a` of `t` is `v`, every other one is as in `s`. -/
abbrev StoredOnly (s t : State) (a v : Byte) : Prop :=
  t.dev.load a = v ∧ ∀ b, b ≠ a → t.dev.load b = s.dev.load b

/-- `i` answers a next state that differs from `s` in stored byte `a`, now `v`, and in the outputs alone: the effect of
a write to an inert or undefined address (R97). -/
def StoresByte (i : Instr) (a v : Byte) : Prop :=
  ∀ s, ∃ t, exec i s = .next t ∧ StoredOnly s t a v ∧ t.dev.ptr = s.dev.ptr ∧ t.dev.cal = s.dev.cal ∧
    t.dev.flag = s.dev.flag ∧ SameInput s t ∧ Quiet t

/-- `i` answers a next state with the whole device unchanged that returns the one byte `f` gives (R43). -/
def ReturnsByte (i : Instr) (f : Device → Byte) : Prop :=
  ∀ s, ∃ t, exec i s = .next t ∧ t.out = [f s.dev] ∧ t.dev = s.dev ∧ SameInput s t ∧ t.diag = .none

/-- `i` writes register `b`: the registers a WRITE's data bytes reach (R54), and the one of a REGW (R56). -/
def writesTo (i : Instr) (b : Byte) : Bool :=
  match i with
  | .write (a :: data) => (b - a).toNat < data.length
  | .write [] | .nop | .read _ | .endTransaction | .tick | .reset => false
  | .regwSeconds _ => b == 0x00
  | .regwMinutes _ => b == 0x01
  | .regwHours _ => b == 0x02
  | .regwDayOfWeek _ => b == 0x03
  | .regwDayOfMonth _ => b == 0x04
  | .regwMonth _ => b == 0x05
  | .regwYear _ => b == 0x06
  | .regwAlarm1_0 _ => b == 0x07
  | .regwAlarm1_1 _ => b == 0x08
  | .regwAlarm1_2 _ => b == 0x09
  | .regwAlarm1_3 _ => b == 0x0A
  | .regwAlarm2_0 _ => b == 0x0B
  | .regwAlarm2_1 _ => b == 0x0C
  | .regwAlarm2_2 _ => b == 0x0D
  | .regwControl _ => b == 0x0E
  | .regwStatus _ => b == 0x0F
  | .regwAgingOffset _ => b == 0x10
  | .regwTempMsb _ => b == 0x11
  | .regwUndef12 _ => b == 0x12
  | .regwTempConv _ => b == 0x13
  | .regwUndefHi a _ => b == a
  | .regrSeconds | .regrMinutes | .regrHours | .regrDayOfWeek | .regrDayOfMonth | .regrMonth | .regrYear
  | .regrAlarm1_0 | .regrAlarm1_1 | .regrAlarm1_2 | .regrAlarm1_3 | .regrAlarm2_0 | .regrAlarm2_1 | .regrAlarm2_2
  | .regrControl | .regrStatus | .regrAgingOffset | .regrTempMsb | .regrUndef12 | .regrTempConv | .regrUndefHi _ => false

/-- Two digits of `u` in packed BCD, the tens digit unbounded: what `ENC` computes (R67), as arithmetic. -/
def packed (u : Nat) : Nat := u / 10 * 16 + u % 10

/-- The bounds of R36 on the calendar counters in every reachable state; the weekday's is its width. -/
abbrev Calendar.Bounded (c : Calendar) : Prop :=
  c.second.toNat ≤ 85 ∧ c.minute.toNat ≤ 85 ∧ c.hour.toNat ≤ 45 ∧ c.dayOfMonth.toNat ≤ 45 ∧ c.month.toNat ≤ 25

/-- A sound device: the stored bytes in canonical form and the calendar within R36's bounds. -/
abbrev Device.Sound (d : Device) : Prop := Memory.wf d.x = true ∧ d.cal.Bounded

/-- The natural ranges (R21, R36): second and minute 0..59, hour 0..23, weekday 1..7, month 1..12, day 1..its length. -/
abbrev Calendar.InRange (c : Calendar) : Prop :=
  c.second.toNat ≤ 59 ∧ c.minute.toNat ≤ 59 ∧ c.hour.toNat ≤ 23 ∧ 1 ≤ c.dayOfWeek.toNat ∧
    1 ≤ c.month.toNat ∧ c.month.toNat ≤ 12 ∧
    1 ≤ c.dayOfMonth.toNat ∧ c.dayOfMonth.toNat ≤ daysInMonth c.month.toNat c.year.toNat

/-- Days from 1 January of year 0 to 1 January of year `y`: 365 each and one for each leap year before `y` (R73). -/
def daysBeforeYear (y : Nat) : Nat := 365 * y + (y + 3) / 4 + (y + 399) / 400 - (y + 99) / 100

/-- Days of year `y` before month `m` (1..12): the civil calendar's running totals, and the leap day after February. -/
def daysBeforeMonth (m y : Nat) : Nat :=
  [0, 0, 31, 59, 90, 120, 151, 181, 212, 243, 273, 304, 334].getD m 0 +
    (if 2 < m ∧ (y % 400 = 0 ∨ (y % 4 = 0 ∧ y % 100 ≠ 0)) then 1 else 0)

/-- The date as a count of days from 1 January of year 0. -/
def Calendar.days (c : Calendar) : Nat :=
  daysBeforeYear c.year.toNat + daysBeforeMonth c.month.toNat c.year.toNat + (c.dayOfMonth.toNat - 1)

/-- Date and time as a count of seconds from the start of year 0. -/
def Calendar.seconds (c : Calendar) : Nat :=
  86400 * c.days + 3600 * c.hour.toNat + 60 * c.minute.toNat + c.second.toNat

end Sys2Proof.Machine
end

