-- ==== Sys2Proof/Certificates/Slice0/Obligations.lean ====
section
/-! DEFINITION. The statements about the machine, each with the rule of spec/ it formalises. They are about single operations
and single steps over every state. -/

open Sys2Proof Sys2Proof.Machine

/-! ## Encoding (spec/30_encoding.md) -/

/-- Every well-formed instruction is read back from its bytes, whatever follows them, with every operand at every value
the encoding admits (R56, R58, R60). The command encoding is the spec's own (decision D1). -/
def Obligations.EncodeThenDecodeRecoversInstr : Prop :=
  ∀ (i : Instr) (rest : List Byte), i.wellFormed = true → decode i.space (encode i ++ rest) = .ok (i, rest)

/-- Whatever the decoder reads is well formed, belongs to the space it was read in, and its bytes are exactly the ones
consumed: each spelling has one meaning (R58 to R60). -/
def Obligations.DecodedBytesAreTheEncoding : Prop :=
  ∀ (sp : Space) (bytes : List Byte) (i : Instr) (rest : List Byte), decode sp bytes = .ok (i, rest) →
    i.wellFormed = true ∧ i.space = sp ∧ bytes = encode i ++ rest

/-- Words written out from the encodings of R56 and R58 decode to what they stand for. -/
def Obligations.SampleWordsDecode : Prop :=
  decode .command [0x01, 0x03, 0x0E, 0x9C, 0x00] = .ok (.write [0x0E, 0x9C, 0x00], []) ∧
  decode .command [0x02, 0x07] = .ok (.read 7, []) ∧
  decode .command [0x05, 0x01, 0x02, 0x00, 0x30, 0x03] = .ok (.reset, [0x01, 0x02, 0x00, 0x30, 0x03]) ∧
  decode .regWrite [0b00000101, 0b10010010] = .ok (.regwMonth 0x92, []) ∧
  decode .regWrite [0b00010010, 0b01010101] = .ok (.regwUndef12 0x55, []) ∧
  decode .regRead [0b00001110] = .ok (.regrControl, []) ∧
  decode .regRead [0b10000001] = .ok (.regrUndefHi 0x81, [])

/-- For every address exactly one row of the table's register rows fits, and it is the row of the register the decoder
names (R56: exact match for 0x00..0x13, five mask pairs for 0x14..0xFF). -/
def Obligations.ExactlyOneRegisterRowFits : Prop :=
  ∀ a : Byte, (regRows.filter fun row => a &&& row.2.2 == row.2.1).map (·.1) = [RegName.ofAddr a]

/-- A byte 0x06..0xFF in opcode position is refused by name whatever follows (R61), and so is a stream that ends inside a
frame: no length byte, too few payload bytes, no count byte (R59). The encoding and the refusal are the spec's own
decisions D1 and D2. -/
def Obligations.ReservedAndTruncatedFramesAreRefused : Prop :=
  ∀ s : State, s.port = .command →
    (∀ op rest, s.stream = op :: rest → 0x06 ≤ op.toNat → step s = .refused (.reservedOpcode op)) ∧
    (s.stream = [0x01] → step s = .refused .truncatedFrame) ∧
    (∀ n payload, s.stream = 0x01 :: n :: payload → payload.length < n.toNat → step s = .refused .truncatedFrame) ∧
    (s.stream = [0x02] → step s = .refused .truncatedFrame)

/-- A step is `exec` of the decoded instruction on the state with exactly its bytes consumed (R11, R58). -/
def Obligations.StepRunsDecodedInstruction : Prop :=
  ∀ (s : State) (i : Instr) (rest : List Byte), decode s.port s.stream = .ok (i, rest) →
    step s = exec i { s with stream := rest }

/-- A step answers a next state exactly when the stream begins with the bytes of a well-formed instruction of the port's
space; it never faults (R12, R61). -/
def Obligations.StepAnswersExactlyTheSpelledOperations : Prop :=
  ∀ s : State,
    ((∃ t, step s = .next t) ↔
      ∃ i rest, i.wellFormed = true ∧ i.space = s.port ∧ s.stream = encode i ++ rest) ∧
    ∀ f, step s ≠ .fault f

/-- Where the decoder reads an instruction from the bits of a table row, a state with that row delivered next runs exactly
that instruction, with nothing else of the stream consumed. How a row's bits are delivered is the model's own choice
(logs 1 to 3). -/
def Obligations.FetchedTableWordIsTheNextOperation : Prop :=
  ∀ (s : State) (nbits w : Nat) (i : Instr), decodeTableWord nbits w = some i →
    step (s.withFetchWord nbits w) = exec i { s with port := i.space }

/-! ## The codec (spec/40_bcd_codec.md) -/

/-- `decode` takes ten times the high nibble and the low nibble of the low byte of any input; the result never exceeds
165 and 0xFF reaches it (R65). -/
def Obligations.BcdDecodeOfAnyInput : Prop :=
  (∀ b : Nat, bcdDecode b = (b / 16 % 16) * 10 + b % 16 ∧ bcdDecode b ≤ 165) ∧ bcdDecode 0xFF = 165

/-- Encoding and decoding a value through one byte is the value modulo 160: the round trip of R68 (a) and (c) up to 159,
and its failure from 160 on. Above 99 `ENC` is the spec's default for what the source leaves undefined (decision D9,
log 9); below 100 it is the source's `encode`. -/
def Obligations.EncodeDecodeRoundTrip : Prop :=
  ∀ u : Nat, bcdDecode (enc u % 256) = u % 160 ∧ (u ≤ 99 → bcdDecode (bcdEncode u) = u)

/-- Decoding and encoding a byte gives it back exactly when its low nibble is a decimal digit: R68 (b) for the bytes with
both nibbles decimal; a high nibble above 9 survives because `ENC` is total (decision D9, log 9). -/
def Obligations.DecodeEncodeRoundTrip : Prop :=
  ∀ b : Byte, enc (bcdDecode b.toNat) = b.toNat ↔ b.toNat % 16 ≤ 9

/-! ## Register writes (spec/42_register_access.md) -/

/-- REGW.SECONDS and REGW.MINUTES store the byte and set the counter to the BCD value of bits 6:0; bit 7 reaches only the
stored byte; nothing else changes (R79, R81). The field positions are the spec's decision D5 (log 12). -/
def Obligations.SecondsAndMinutesWrites : Prop :=
  ∀ (v : Byte) (s : State),
    (∃ t, exec (.regwSeconds v) s = .next t ∧ StoredOnly s t 0x00 v ∧ t.dev.ptr = s.dev.ptr ∧ t.dev.flag = s.dev.flag ∧
      t.dev.cal = { s.dev.cal with second := t.dev.cal.second } ∧
      t.dev.cal.second.toNat = 10 * (v.toNat / 16 % 8) + v.toNat % 16 ∧ SameInput s t ∧ Quiet t) ∧
    (∃ t, exec (.regwMinutes v) s = .next t ∧ StoredOnly s t 0x01 v ∧ t.dev.ptr = s.dev.ptr ∧ t.dev.flag = s.dev.flag ∧
      t.dev.cal = { s.dev.cal with minute := t.dev.cal.minute } ∧
      t.dev.cal.minute.toNat = 10 * (v.toNat / 16 % 8) + v.toNat % 16 ∧ SameInput s t ∧ Quiet t)

/-- REGW.HOURS takes the hour from bits 5:0 as 24-hour BCD, pm20 from bit 5 and mode12 from bit 6, and stores the byte;
osc_en, century and the rest are unchanged. The layout is the spec's decision D6 (log 12). -/
def Obligations.HoursWrite : Prop :=
  ∀ (v : Byte) (s : State),
    ∃ t, exec (.regwHours v) s = .next t ∧ StoredOnly s t 0x02 v ∧ t.dev.ptr = s.dev.ptr ∧
      t.dev.cal = { s.dev.cal with hour := t.dev.cal.hour } ∧
      t.dev.cal.hour.toNat = 10 * (v.toNat / 16 % 4) + v.toNat % 16 ∧
      t.dev.flag = { s.dev.flag with mode12 := v.getLsbD 6, pm20 := v.getLsbD 5 } ∧ SameInput s t ∧ Quiet t

/-- REGW.DAYOFWEEK takes bits 2:0 raw, REGW.DAYOFMONTH the BCD value of bits 5:0; both store the byte and change nothing
else (R85, R87). The field positions are the spec's decision D5 (log 12). -/
def Obligations.DayWrites : Prop :=
  ∀ (v : Byte) (s : State),
    (∃ t, exec (.regwDayOfWeek v) s = .next t ∧ StoredOnly s t 0x03 v ∧ t.dev.ptr = s.dev.ptr ∧
      t.dev.flag = s.dev.flag ∧ t.dev.cal = { s.dev.cal with dayOfWeek := t.dev.cal.dayOfWeek } ∧
      t.dev.cal.dayOfWeek.toNat = v.toNat % 8 ∧ SameInput s t ∧ Quiet t) ∧
    (∃ t, exec (.regwDayOfMonth v) s = .next t ∧ StoredOnly s t 0x04 v ∧ t.dev.ptr = s.dev.ptr ∧
      t.dev.flag = s.dev.flag ∧ t.dev.cal = { s.dev.cal with dayOfMonth := t.dev.cal.dayOfMonth } ∧
      t.dev.cal.dayOfMonth.toNat = 10 * (v.toNat / 16 % 4) + v.toNat % 16 ∧ SameInput s t ∧ Quiet t)

/-- REGW.MONTH takes the month from bits 4:0 as BCD and the century flag from bit 7, and stores the byte; the year is not
moved. That bit 7 is the century flag and only sets it is the spec's decision D7 (log 12). -/
def Obligations.MonthWrite : Prop :=
  ∀ (v : Byte) (s : State),
    ∃ t, exec (.regwMonth v) s = .next t ∧ StoredOnly s t 0x05 v ∧ t.dev.ptr = s.dev.ptr ∧
      t.dev.cal = { s.dev.cal with month := t.dev.cal.month } ∧
      t.dev.cal.month.toNat = 10 * (v.toNat / 16 % 2) + v.toNat % 16 ∧
      t.dev.flag = { s.dev.flag with century := v.getLsbD 7 } ∧ SameInput s t ∧ Quiet t

/-- REGW.YEAR sets the year to 2000 plus the BCD value of the byte, plus 200 while the century flag is set: the source's
double offset, kept literally (R91, conflict C3; the exact formula is the spec's decision D8, log 9); it stores the byte and
changes nothing else. -/
def Obligations.YearWrite : Prop :=
  ∀ (v : Byte) (s : State),
    ∃ t, exec (.regwYear v) s = .next t ∧ StoredOnly s t 0x06 v ∧ t.dev.ptr = s.dev.ptr ∧ t.dev.flag = s.dev.flag ∧
      t.dev.cal = { s.dev.cal with year := t.dev.cal.year } ∧
      t.dev.cal.year.toNat =
        2000 + (10 * (v.toNat / 16) + v.toNat % 16) + (if s.dev.flag.century then 200 else 0) ∧
      SameInput s t ∧ Quiet t

/-- REGW.CONTROL stores the byte and sets osc_en, which is the tick source's enabled state, to the complement of bit 7 in
the same step; the other flags, the calendar and the pointer are unchanged (R93). -/
def Obligations.ControlWrite : Prop :=
  ∀ (v : Byte) (s : State),
    ∃ t, exec (.regwControl v) s = .next t ∧ StoredOnly s t 0x0E v ∧ t.dev.ptr = s.dev.ptr ∧ t.dev.cal = s.dev.cal ∧
      t.dev.flag = { s.dev.flag with oscEn := !(v.getLsbD 7) } ∧ t.dev.tickSourceEnabled = !(v.getLsbD 7) ∧
      SameInput s t ∧ Quiet t

/-- REGW.STATUS stores every bit as written, with no write-1-to-clear, and changes nothing else. That STATUS is plain
storage is the spec's decision D11 (log 12). -/
def Obligations.StatusWrite : Prop := ∀ v : Byte, StoresByte (.regwStatus v) 0x0F v

/-- A write to an inert or undefined address stores the byte and changes nothing else (R97). Storage at 0x12 and
0x14..0xFF is the spec's decision D12 (log 14); UNDEF_HI below 0x14 has no words and is the model's own (log 20). -/
def Obligations.InertWrites : Prop :=
  ∀ v : Byte,
    (StoresByte (.regwAlarm1_0 v) 0x07 v ∧ StoresByte (.regwAlarm1_1 v) 0x08 v ∧ StoresByte (.regwAlarm1_2 v) 0x09 v ∧
      StoresByte (.regwAlarm1_3 v) 0x0A v) ∧
    (StoresByte (.regwAlarm2_0 v) 0x0B v ∧ StoresByte (.regwAlarm2_1 v) 0x0C v ∧ StoresByte (.regwAlarm2_2 v) 0x0D v) ∧
    (StoresByte (.regwAgingOffset v) 0x10 v ∧ StoresByte (.regwTempMsb v) 0x11 v ∧ StoresByte (.regwUndef12 v) 0x12 v ∧
      StoresByte (.regwTempConv v) 0x13 v) ∧
    ∀ a : Byte, StoresByte (.regwUndefHi a v) a v

/-! ## Register reads (spec/42_register_access.md) -/

/-- REGR.SECONDS and REGR.MINUTES return stored bit 7 over the BCD counter cut to seven bits, and change nothing
(R80, R82). The field positions and the BCD of counters above 99 are the spec's decisions D5 and D9 (logs 12, 9). -/
def Obligations.SecondsAndMinutesReads : Prop :=
  ReturnsByte .regrSeconds (fun d =>
    BitVec.ofNat 8 ((d.load 0x00).toNat / 128 * 128 + packed d.cal.second.toNat % 128)) ∧
  ReturnsByte .regrMinutes (fun d =>
    BitVec.ofNat 8 ((d.load 0x01).toNat / 128 * 128 + packed d.cal.minute.toNat % 128))

/-- REGR.HOURS returns stored bit 7, mode12, pm20 and the low five bits of the BCD hour, and changes nothing. The layout
is the spec's decision D6 (log 12), the BCD of hours above 99 its decision D9 (log 9). -/
def Obligations.HoursRead : Prop :=
  ReturnsByte .regrHours (fun d =>
    BitVec.ofNat 8 ((d.load 0x02).toNat / 128 * 128 + d.flag.mode12.toNat * 64 + d.flag.pm20.toNat * 32 +
      packed d.cal.hour.toNat % 32))

/-- REGR.DAYOFWEEK returns stored bits 7:3 over the raw weekday, REGR.DAYOFMONTH stored bits 7:6 over the BCD day cut to
six bits; both change nothing (R86, R88). The field positions and the BCD of days above 99 are the spec's decisions D5
and D9 (logs 12, 9). -/
def Obligations.DayReads : Prop :=
  ReturnsByte .regrDayOfWeek (fun d => BitVec.ofNat 8 ((d.load 0x03).toNat / 8 * 8 + d.cal.dayOfWeek.toNat)) ∧
  ReturnsByte .regrDayOfMonth (fun d =>
    BitVec.ofNat 8 ((d.load 0x04).toNat / 64 * 64 + packed d.cal.dayOfMonth.toNat % 64))

/-- REGR.MONTH returns the century flag, stored bits 6:5 and the BCD month cut to five bits, and changes nothing (R90). The layout
and the BCD of months above 99 are the spec's decisions D5, D7 and D9 (logs 12, 9). -/
def Obligations.MonthRead : Prop :=
  ReturnsByte .regrMonth (fun d =>
    BitVec.ofNat 8 (d.flag.century.toNat * 128 + (d.load 0x05).toNat / 32 % 4 * 32 + packed d.cal.month.toNat % 32))

/-- REGR.YEAR returns the low eight bits of the BCD of the year's offset from 2000, from 2100 while the century flag is
set, the subtraction modulo 65536, and changes nothing. Outside offsets 0..99 this is the spec's default for what the
source leaves undefined (decisions D8, D9, log 9). -/
def Obligations.YearRead : Prop :=
  ReturnsByte .regrYear (fun d =>
    BitVec.ofNat 8 (packed ((d.cal.year.toNat + 65536 - (if d.flag.century then 2100 else 2000)) % 65536) % 256))

/-- REGR.CONTROL returns the complement of osc_en over stored bits 6:0, and changes nothing (R94). -/
def Obligations.ControlRead : Prop :=
  ReturnsByte .regrControl (fun d => BitVec.ofNat 8 ((!d.flag.oscEn).toNat * 128 + (d.load 0x0E).toNat % 128))

/-- Reads of STATUS and of the inert and undefined addresses return the stored byte and change nothing (R96, R98).
That STATUS is plain storage and that 0x12 and 0x14..0xFF have storage are the spec's decisions D11 and D12 (logs 12, 14);
UNDEF_HI below 0x14 has no words and is the model's own (log 20). -/
def Obligations.StoredByteReads : Prop :=
  ReturnsByte .regrStatus (·.load 0x0F) ∧
  (ReturnsByte .regrAlarm1_0 (·.load 0x07) ∧ ReturnsByte .regrAlarm1_1 (·.load 0x08) ∧
    ReturnsByte .regrAlarm1_2 (·.load 0x09) ∧ ReturnsByte .regrAlarm1_3 (·.load 0x0A)) ∧
  (ReturnsByte .regrAlarm2_0 (·.load 0x0B) ∧ ReturnsByte .regrAlarm2_1 (·.load 0x0C) ∧
    ReturnsByte .regrAlarm2_2 (·.load 0x0D)) ∧
  (ReturnsByte .regrAgingOffset (·.load 0x10) ∧ ReturnsByte .regrTempMsb (·.load 0x11) ∧
    ReturnsByte .regrUndef12 (·.load 0x12) ∧ ReturnsByte .regrTempConv (·.load 0x13)) ∧
  ∀ a : Byte, ReturnsByte (.regrUndefHi a) (·.load a)

/-! ## The register file as a whole -/

/-- RegWrite and RegRead: each of the nine behavioural addresses is the register write or read of that name, every other
address stores the byte, or returns the stored byte, and nothing else (R99, R100). Storage behind the undefined addresses
is the spec's decision D12 (log 14). -/
def Obligations.RegWriteAndRegReadDispatch : Prop :=
  ∀ (v : Byte) (s : State),
    (∀ p ∈ [(0x00, Instr.regwSeconds v), (0x01, .regwMinutes v), (0x02, .regwHours v), (0x03, .regwDayOfWeek v),
        (0x04, .regwDayOfMonth v), (0x05, .regwMonth v), (0x06, .regwYear v), (0x0E, .regwControl v),
        (0x0F, .regwStatus v)],
      ∃ t, exec p.2 s = .next t ∧ t.dev = regWrite p.1 v s.dev ∧ Quiet t) ∧
    (∀ p ∈ [((0x00 : Byte), Instr.regrSeconds), (0x01, .regrMinutes), (0x02, .regrHours), (0x03, .regrDayOfWeek),
        (0x04, .regrDayOfMonth), (0x05, .regrMonth), (0x06, .regrYear), (0x0E, .regrControl), (0x0F, .regrStatus)],
      ∃ t, exec p.2 s = .next t ∧ t.out = [regRead p.1 s.dev] ∧ t.dev = s.dev) ∧
    ∀ a : Byte, 0x07 ≤ a.toNat → a ≠ 0x0E → a ≠ 0x0F →
      regRead a s.dev = s.dev.load a ∧
      (∀ b, (regWrite a v s.dev).load b = if b = a then v else s.dev.load b) ∧
      (regWrite a v s.dev).cal = s.dev.cal ∧ (regWrite a v s.dev).flag = s.dev.flag ∧
      (regWrite a v s.dev).ptr = s.dev.ptr

/-- A WRITE of an address and one data byte does what the register write micro-operation decoded from the same two bytes
does, and moves the pointer one past the address; a READ at a pointer other than 0x00 does what the register read
decoded from that address does (R56, R102, R103). That the micro-operations run as operations of their own is the model's
choice (log 2); a WRITE while Addressed, the wrap and a count of 0 are as logs 13 and 22 say (decisions D14, D15). -/
def Obligations.BusTransactionsRunTheMicroOperations : Prop :=
  ∀ (a v : Byte) (s : State) (n : Nat),
    (∃ t u, exec (.write [a, v]) s = .next t ∧ exec ((RegName.ofAddr a).writeInstr a v) s = .next u ∧
      t = { u with dev := { u.dev with ptr := some (a + 1) } }) ∧
    (a ≠ 0x00 → s.dev.ptr = some a →
      ∃ t, exec (.read n) s = .next t ∧ exec ((RegName.ofAddr a).readInstr a) s = .next t)

/-- A write to one register never changes what another reads, except MONTH, whose century bit changes what YEAR reads
(R44; the layouts are the spec's decisions D5 to D7, log 12, the storage behind 0x12 and 0x14..0xFF its decision D12,
log 14). -/
def Obligations.WritesDoNotLeakIntoOtherRegisters : Prop :=
  ∀ (a b v : Byte) (d : Device), b ≠ a → ¬(a = 0x05 ∧ b = 0x06) → regRead b (regWrite a v d) = regRead b d

/-- A register reads back the byte just written when the low nibble of a BCD register is a decimal digit (its field's bits
then survive the cut), with YEAR excepted while the century flag is set. The layouts are the spec's decisions D5 to D7
(log 12), ENC above 99 its decision D9 (log 9). From 0x07 up CONTROL reads back by R31 and every other register as the
plain storage of R32, R97 and R98: STATUS by decision D11 (log 12), 0x12 and 0x14..0xFF by decision D12 (log 14). -/
def Obligations.RegistersReadBackWhatWasWritten : Prop :=
  ∀ (a v : Byte) (d : Device),
    (a.toNat ≤ 0x06 → a ≠ 0x03 → v.toNat % 16 ≤ 9) → (a = 0x06 → d.flag.century = false) →
    regRead a (regWrite a v d) = v

/-- With the century flag set a YEAR write reads back as the low byte of the packed form of its value plus 100, which is
never the byte written (conflict C3; ENC above 99 is decision D9, log 9). -/
def Obligations.YearReadsBackOffByACentury : Prop :=
  ∀ (v : Byte) (d : Device), d.flag.century = true →
    regRead 0x06 (regWrite 0x06 v d) = BitVec.ofNat 8 (packed (100 + (10 * (v.toNat / 16) + v.toNat % 16)) % 256) ∧
    regRead 0x06 (regWrite 0x06 v d) ≠ v

/-! ## Bus transactions (spec/43_bus_transactions.md) -/

/-- WRITE: an empty one warns and changes nothing; otherwise the first byte is the address, data byte i (from 0) goes by
RegWrite to address + i modulo 256, in order, the pointer ends one past the last register written, and nothing is
returned; the same in both controller states (R102). The wrap is source-flagged (U5, log 13), the Addressed state is the
spec's decision D14 (log 13). -/
def Obligations.WriteLatchesAndPostIncrements : Prop :=
  ∀ s : State,
    (∃ t, exec (.write []) s = .next t ∧ t.dev = s.dev ∧ t.out = [] ∧ t.diag = .warnEmptyWrite ∧ SameInput s t) ∧
    ∀ (a : Byte) (data : List Byte), ∃ t, exec (.write (a :: data)) s = .next t ∧
      t.dev = { (data.zipIdx.foldl (fun d vi => regWrite (a + BitVec.ofNat 8 vi.2) vi.1 d) s.dev) with
        ptr := some (BitVec.ofNat 8 (a.toNat + data.length)) } ∧
      SameInput s t ∧ Quiet t

/-- After a WRITE of at most 256 data bytes every stored byte the data reach is the byte sent there, wrapping from 0xFF to
0x00, and every other stored byte is as before (R54, R99). That every address has a stored byte, 0x12 and 0x14..0xFF
too, is the spec's decision D12 (log 14); the wrap is source-flagged (U5) and a WRITE while Addressed its decision D14
(both log 13). -/
def Obligations.WriteStoresItsDataBytes : Prop :=
  ∀ (s : State) (a : Byte) (data : List Byte), data.length ≤ 256 →
    ∃ t, exec (.write (a :: data)) s = .next t ∧
      ∀ b : Byte, t.dev.load b = data.getD (b - a).toNat (s.dev.load b)

/-- READ: without a pointer an error and no bytes; at pointer 0x00 the seven bytes Seconds to Year in address order; at
any other pointer the one byte there; whatever the count; the device, the pointer with it, is unchanged (R103). That a
count of 0 is ignored too is the spec's decision D15 (log 22). -/
def Obligations.ReadAnswersByPointer : Prop :=
  ∀ (s : State) (n : Nat),
    ∃ t, exec (.read n) s = .next t ∧ t.dev = s.dev ∧ SameInput s t ∧
      (s.dev.ptr = none → t.out = [] ∧ t.diag = .errReadUnaddressed) ∧
      (s.dev.ptr = some 0x00 → t.out = (List.range 7).map (fun i => regRead (BitVec.ofNat 8 i) s.dev) ∧ t.diag = .none) ∧
      (∀ a, a ≠ 0x00 → s.dev.ptr = some a → t.out = [regRead a s.dev] ∧ t.diag = .none)

/-- END_TRANSACTION clears the pointer unconditionally, from any state, and changes nothing else (R104). -/
def Obligations.EndTransactionClearsThePointer : Prop :=
  ∀ s : State, ∃ t, exec .endTransaction s = .next t ∧ t.dev.ptr = none ∧ t.dev.x = s.dev.x ∧
    t.dev.cal = s.dev.cal ∧ t.dev.flag = s.dev.flag ∧ SameInput s t ∧ Quiet t

/-- Setting all seven timekeeping registers in one WRITE and reading them back by the burst returns the seven bytes sent:
every low nibble a decimal digit but the weekday's, which is raw, and the century bit clear, whatever the state before
(R102, R103). The layouts are the spec's decisions D5 to D7 (log 12); a YEAR byte 0xA0..0xF9 reads back by its decision
D9 (log 9), a count of 0 is its decision D15 (log 22), a WRITE while Addressed its decision D14 (log 13). -/
def Obligations.TimeSetInOneWriteReadsBackByBurst : Prop :=
  ∀ (s : State) (ss mi hh dw dm mo yy : Byte) (n : Nat),
    (∀ v ∈ [ss, mi, hh, dm, mo, yy], v.toNat % 16 ≤ 9) → mo.toNat < 128 →
    ∃ t u w, exec (.write [0x00, ss, mi, hh, dw, dm, mo, yy]) s = .next t ∧ exec (.write [0x00]) t = .next u ∧
      exec (.read n) u = .next w ∧ w.out = [ss, mi, hh, dw, dm, mo, yy] ∧ w.diag = .none

/-! ## System operations (spec/44_system_ops.md, spec/41_calendar_advance.md) -/

/-- RESET from any state: pointer None, CONTROL's stored byte 0x1C, STATUS 0x88, every other stored byte 0x00, the
calendar 2000-01-01 00:00:00 weekday 1, the oscillator enabled, the other flags clear; nothing delivered is lost. The
values other than pointer, CONTROL, STATUS and oscillator are the spec's decision D13 (logs 7, 8). -/
def Obligations.ResetRestoresPowerOnState : Prop :=
  ∀ s : State, ∃ t, exec .reset s = .next t ∧ t.dev.ptr = none ∧
    (∀ a : Byte, t.dev.load a = if a = 0x0E then 0x1C else if a = 0x0F then 0x88 else 0x00) ∧
    t.dev.cal.second = 0 ∧ t.dev.cal.minute = 0 ∧ t.dev.cal.hour = 0 ∧ t.dev.cal.dayOfWeek = 1 ∧
    t.dev.cal.dayOfMonth = 1 ∧ t.dev.cal.month = 1 ∧ t.dev.cal.year = 2000 ∧
    t.dev.flag.oscEn = true ∧ t.dev.flag.pm20 = false ∧ t.dev.flag.mode12 = false ∧ t.dev.flag.century = false ∧
    t.dev = State.reset.dev ∧ SameInput s t ∧ Quiet t

/-- After a RESET from any state: a READ answers with no byte and an error, a WRITE of address 0x0E and a READ return
0x1C, and a WRITE of address 0x0F and a READ return 0x88 (S2 of spec/95_test_vectors.md), whatever the count (R103); that
a count of 0 is ignored too is the spec's decision D15 (log 22). -/
def Obligations.ControlAndStatusReadBackAfterReset : Prop :=
  ∀ (s : State) (n : Nat), ∃ r, exec .reset s = .next r ∧
    (∃ t, exec (.read n) r = .next t ∧ t.out = [] ∧ t.diag = .errReadUnaddressed ∧ t.dev = r.dev) ∧
    (∃ t u, exec (.write [0x0E]) r = .next t ∧ exec (.read n) t = .next u ∧ u.out = [0x1C]) ∧
    (∃ t u, exec (.write [0x0F]) r = .next t ∧ exec (.read n) t = .next u ∧ u.out = [0x88])

/-- NOP leaves the whole device as it was and reports nothing (R107; the operation is the spec's own, decision D1). -/
def Obligations.NopIsTheIdentity : Prop :=
  ∀ s : State, ∃ t, exec .nop s = .next t ∧ t.dev = s.dev ∧ SameInput s t ∧ Quiet t

/-- TICK with the oscillator stopped leaves the whole device as it was, pm20 included (R108). -/
def Obligations.TickWithStoppedOscillatorIsTheIdentity : Prop :=
  ∀ s : State, s.dev.flag.oscEn = false → ∃ t, exec .tick s = .next t ∧ t.dev = s.dev ∧ SameInput s t ∧ Quiet t

/-- TICK with the oscillator running leaves pm20 = (hour >= 20), of the hour after the advance, literally and in both
settings of mode12 (R75). -/
def Obligations.TickRecomputesPm20FromTheNewHour : Prop :=
  ∀ s : State, s.dev.flag.oscEn = true → ∃ t, exec .tick s = .next t ∧
    t.dev.flag.pm20 = decide (20 ≤ t.dev.cal.hour.toNat)

/-- TICK touches no stored byte, not the pointer, not century, mode12 or osc_en, and returns and reports nothing (R77, the
spec's decision D18, log 11). -/
def Obligations.TickTouchesOnlyTheCalendarAndPm20 : Prop :=
  ∀ s : State, ∃ t, exec .tick s = .next t ∧ t.dev.flag = { s.dev.flag with pm20 := t.dev.flag.pm20 } ∧
    t.dev.x = s.dev.x ∧ t.dev.ptr = s.dev.ptr ∧ SameInput s t ∧ Quiet t

/-- The carry chain of an advancing TICK, field by field, each field at or above its threshold wrapping into the next; the
month's length is that of the month and year before the advance, and the year wraps from 65535 to 0 (R69). Thresholds,
month lengths and the weekday step are the spec's decisions D16 and D17 (logs 10, 11), the year's width of 16 bits, so the
wrap, its decision D4 (log 15). -/
def Obligations.TickCarriesFieldByField : Prop :=
  ∀ s : State, s.dev.flag.oscEn = true → ∃ t, exec .tick s = .next t ∧
    (let c := s.dev.cal
     let e := t.dev.cal
     let secCarry := 59 ≤ c.second.toNat
     let minCarry := secCarry ∧ 59 ≤ c.minute.toNat
     let hourCarry := minCarry ∧ 23 ≤ c.hour.toNat
     let dayCarry := hourCarry ∧ daysInMonth c.month.toNat c.year.toNat ≤ c.dayOfMonth.toNat
     let monthCarry := dayCarry ∧ 12 ≤ c.month.toNat
     e.second.toNat = (if secCarry then 0 else c.second.toNat + 1) ∧
     e.minute.toNat = (if minCarry then 0 else if secCarry then c.minute.toNat + 1 else c.minute.toNat) ∧
     e.hour.toNat = (if hourCarry then 0 else if minCarry then c.hour.toNat + 1 else c.hour.toNat) ∧
     e.dayOfWeek.toNat = (if hourCarry then (if 7 ≤ c.dayOfWeek.toNat then 1 else c.dayOfWeek.toNat + 1)
       else c.dayOfWeek.toNat) ∧
     e.dayOfMonth.toNat = (if dayCarry then 1 else if hourCarry then c.dayOfMonth.toNat + 1 else c.dayOfMonth.toNat) ∧
     e.month.toNat = (if monthCarry then 1 else if dayCarry then c.month.toNat + 1 else c.month.toNat) ∧
     e.year.toNat = (if monthCarry then (c.year.toNat + 1) % 65536 else c.year.toNat))

/-- From a calendar in its natural ranges below year 65535, an advancing TICK is exactly one second later in the civil
calendar counted from year 0, and the weekday moves on with the day count. The civil calendar is the spec's reading of
'ordinary calendar carry rules' (decisions D16, D17, log 11). The wrap of year 65535 is TickCarriesFieldByField's. -/
def Obligations.TickIsOneSecondOfTheCivilCalendar : Prop :=
  ∀ s : State, s.dev.flag.oscEn = true → s.dev.cal.InRange → s.dev.cal.year.toNat < 65535 →
    ∃ t, exec .tick s = .next t ∧ t.dev.cal.seconds = s.dev.cal.seconds + 1 ∧
      (t.dev.cal.dayOfWeek.toNat + s.dev.cal.days) % 7 = (s.dev.cal.dayOfWeek.toNat + t.dev.cal.days) % 7

/-- A TICK keeps a calendar in its natural ranges in them (R36; decisions D16, D17, log 11). -/
def Obligations.TickKeepsNaturalRanges : Prop :=
  ∀ s : State, s.dev.cal.InRange → ∃ t, exec .tick s = .next t ∧ t.dev.cal.InRange

/-! ## Every operation, every step -/

/-- WARN_EMPTY_WRITE: an empty WRITE, in either controller state, reports a warning, returns nothing and changes no
state; no other operation reports it (R116). -/
def Obligations.EmptyWriteWarnsAndChangesNothing : Prop :=
  (∀ s : State, ∃ t, exec (.write []) s = .next t ∧ t.diag = .warnEmptyWrite ∧ t.diag.severity = .warning ∧ t.out = [] ∧
    t.dev = s.dev) ∧
  ∀ (i : Instr) (s t : State), exec i s = .next t → t.diag = .warnEmptyWrite → i = .write []

/-- ERR_READ_UNADDRESSED: a READ while the pointer is None reports an error, returns no byte and changes no state; only a
READ, and only without a pointer, reports it (R115). -/
def Obligations.UnaddressedReadErrsAndChangesNothing : Prop :=
  (∀ (s : State) (n : Nat), s.dev.ptr = none → ∃ t, exec (.read n) s = .next t ∧ t.diag = .errReadUnaddressed ∧
    t.diag.severity = .error ∧ t.out = [] ∧ t.dev = s.dev) ∧
  ∀ (i : Instr) (s t : State), exec i s = .next t → t.diag = .errReadUnaddressed → s.dev.ptr = none ∧ ∃ n, i = .read n

/-- Every operation on every state answers a next state, leaves what is still to be delivered alone, and yields a
diagnostic in exactly two cases: an empty WRITE, a READ without a pointer; then it returns no byte and the device is
exactly what it was (R12, R113). That the register micro-operations run as operations is the model's choice (log 2). -/
def Obligations.EveryOperationAnswers : Prop :=
  ∀ (i : Instr) (s : State), ∃ t, exec i s = .next t ∧ SameInput s t ∧
    (t.diag = .warnEmptyWrite ↔ i = .write []) ∧
    (t.diag = .errReadUnaddressed ↔ s.dev.ptr = none ∧ ∃ n, i = .read n) ∧
    (t.diag ≠ .none → t.out = [] ∧ t.dev = s.dev)

/-- Only the reads return bytes, and they change no state: a READ or a register read leaves the device as it was, any
other operation returns nothing (R43). That the micro-operations run as operations is the model's choice
(log 2). -/
def Obligations.OnlyReadsReturnAndReadsChangeNothing : Prop :=
  ∀ (i : Instr) (s t : State), exec i s = .next t →
    (i.space = .regRead ∨ (∃ n, i = .read n) → t.dev = s.dev) ∧
    (t.out ≠ [] → i.space = .regRead ∨ ∃ n, i = .read n)

/-- The stored byte at an address is changed only by RESET and by an operation that writes that register (R77, R102); that a
TICK changes none is the spec's decision D18 (log 11). -/
def Obligations.OnlyWritesChangeAStoredByte : Prop :=
  ∀ (i : Instr) (s t : State) (b : Byte), exec i s = .next t → t.dev.load b ≠ s.dev.load b →
    i = .reset ∨ writesTo i b = true

/-- The calendar is changed only by RESET, by a TICK while the oscillator runs, and by an operation that writes a register
0x00..0x06 (R21). -/
def Obligations.OnlyTimeOperationsChangeTheCalendar : Prop :=
  ∀ (i : Instr) (s t : State), exec i s = .next t → t.dev.cal ≠ s.dev.cal →
    i = .reset ∨ (i = .tick ∧ s.dev.flag.oscEn = true) ∨ ∃ b : Byte, b.toNat ≤ 0x06 ∧ writesTo i b = true

/-- Each flag has the writers R23 gives it and no other: osc_en CONTROL and RESET, mode12 HOURS and RESET, century MONTH
and RESET, pm20 HOURS, RESET and a TICK while the oscillator runs. The positions are the spec's decisions D6 and D7, that a
TICK leaves the other three its decision D18 (logs 12, 11). -/
def Obligations.EachFlagHasOnlyItsWriters : Prop :=
  ∀ (i : Instr) (s t : State), exec i s = .next t →
    (t.dev.flag.oscEn ≠ s.dev.flag.oscEn → i = .reset ∨ writesTo i 0x0E = true) ∧
    (t.dev.flag.mode12 ≠ s.dev.flag.mode12 → i = .reset ∨ writesTo i 0x02 = true) ∧
    (t.dev.flag.century ≠ s.dev.flag.century → i = .reset ∨ writesTo i 0x05 = true) ∧
    (t.dev.flag.pm20 ≠ s.dev.flag.pm20 →
      i = .reset ∨ writesTo i 0x02 = true ∨ (i = .tick ∧ s.dev.flag.oscEn = true))

/-- The pointer is changed only by a WRITE with at least its address byte, END_TRANSACTION and RESET (R105). -/
def Obligations.OnlyBusOperationsChangeThePointer : Prop :=
  ∀ (i : Instr) (s t : State), exec i s = .next t → t.dev.ptr ≠ s.dev.ptr →
    i = .reset ∨ i = .endTransaction ∨ ∃ a data, i = .write (a :: data)

/-- Every step keeps a sound device sound: the stored bytes in canonical form and the calendar within R36's bounds. The
bounds are the spec's own inference and rest on its layouts (decision D5, log 12). -/
def Obligations.StepKeepsTheDeviceSound : Prop :=
  ∀ s t : State, s.dev.Sound → step s = .next t → t.dev.Sound

/-- The device is sound after reset. -/
def Obligations.ResetDeviceIsSound : Prop := State.reset.dev.Sound
end

