-- ==== Sys2Proof/Laws/Codec.lean ====
section
/-! SUPPORT. The codec and the operand forms as division and remainder, which `omega` decides. -/

namespace Sys2Proof.Machine

/-- `decode` is ten times the high nibble and the low nibble of the low byte. -/
theorem bcdDecode_eq (b : Nat) : bcdDecode b = b / 16 % 16 * 10 + b % 16 := by
  have h1 : b &&& 0xFF = b % 256 := Nat.and_two_pow_sub_one_eq_mod b 8
  have h2 : b &&& 0xF = b % 16 := Nat.and_two_pow_sub_one_eq_mod b 4
  rw [bcdDecode, h1, h2, Nat.shiftRight_eq_div_pow]
  omega

/-- `ENC` is sixteen times the quotient by ten and the remainder: the nibbles do not overlap. -/
theorem enc_eq (u : Nat) : enc u = u / 10 * 16 + u % 10 := by
  rw [enc, ← Nat.shiftLeft_add_eq_or_of_lt (by omega), Nat.shiftLeft_eq]

/-- The source's `encode` is the same arithmetic. -/
theorem bcdEncode_eq (u : Nat) : bcdEncode u = u / 10 * 16 + u % 10 := enc_eq u

theorem slice_eq (v : Byte) (hi lo : Nat) : slice v hi lo = v.toNat / 2 ^ lo % 2 ^ (hi + 1 - lo) := by
  rw [slice, Nat.shiftRight_eq_div_pow]

/-- A bit read as a Boolean is the vector's own bit. -/
theorem bitAt_eq (v : Byte) (i : Nat) : bitAt v i = v.getLsbD i := by
  rw [bitAt, slice_eq, BitVec.getLsbD, Nat.testBit_eq_decide_div_mod_eq]
  simp [beq_eq_decide]

/-- The operand of a BCD field of `w` bits above the low nibble: a cut to the field loses nothing in eight bits. -/
theorem bcdDecode_cut {n k : Nat} (hk : k = 2 ∨ k = 4 ∨ k = 8) :
    (BitVec.ofNat 8 (bcdDecode (n % (16 * k)))).toNat = 10 * (n / 16 % k) + n % 16 := by
  have h : n % (16 * k) / 16 = n / 16 % k := Nat.mod_mul_right_div_self n 16 k
  have h' : n % (16 * k) % 16 = n % 16 := Nat.mod_mul_right_mod n 16 k
  have hlt : n / 16 % k < k := Nat.mod_lt _ (by omega)
  rw [bcdDecode_eq, h, h', Nat.mod_eq_of_lt (by omega : n / 16 % k < 16), BitVec.toNat_ofNat, Nat.mod_eq_of_lt (by omega)]
  omega

theorem bcd7_toNat (v : Byte) : (bcd7 v).toNat = 10 * (v.toNat / 16 % 8) + v.toNat % 16 := by
  simpa [bcd7, slice_eq] using bcdDecode_cut (n := v.toNat) (k := 8) (by simp)

theorem bcd6_toNat (v : Byte) : (bcd6 v).toNat = 10 * (v.toNat / 16 % 4) + v.toNat % 16 := by
  simpa [bcd6, slice_eq] using bcdDecode_cut (n := v.toNat) (k := 4) (by simp)

theorem bcd5_toNat (v : Byte) : (bcd5 v).toNat = 10 * (v.toNat / 16 % 2) + v.toNat % 16 := by
  simpa [bcd5, slice_eq] using bcdDecode_cut (n := v.toNat) (k := 2) (by simp)

theorem rawWeekday_toNat (v : Byte) : (rawWeekday v).toNat = v.toNat % 8 := by
  simp [rawWeekday, slice_eq]

theorem yearOperand_toNat (century : Bool) (v : Byte) :
    (yearOperand century v).toNat =
      2000 + (10 * (v.toNat / 16) + v.toNat % 16) + (if century then 200 else 0) := by
  have h : v.toNat / 16 < 16 := by have := v.isLt; omega
  rw [yearOperand, bcdDecode_eq, Nat.mod_eq_of_lt h, BitVec.toNat_ofNat, Config.yearBase, Config.centuryOffset,
    Nat.mod_eq_of_lt (by split <;> omega)]
  split <;> omega

theorem yearOffset_eq (century : Bool) (y : Year) :
    yearOffset century y = (y.toNat + 65536 - (if century then 2100 else 2000)) % 65536 := by
  have := y.isLt
  simp only [yearOffset, BitVec.toNat_sub, BitVec.toNat_ofNat, Config.yearBase, Config.centuryOffset]
  split <;> omega

@[simp] theorem pm20OfHour_eq (h : Byte) : pm20OfHour h = decide (20 ≤ h.toNat) := rfl

end Sys2Proof.Machine
end

