-- ==== Sys2Proof/Laws/State.lean ====
section
/-! SUPPORT. One lemma per field per update of the device and of the machine, so that no proof unfolds a record update. -/

namespace Sys2Proof.Machine

theorem Device.ext_fields {d e : Device} (hx : d.x = e.x) (hp : d.ptr = e.ptr) (hc : d.cal = e.cal)
    (hf : d.flag = e.flag) : d = e := by
  cases d; cases e; simp_all

@[simp] theorem Device.store_x (d : Device) (a v : Byte) : (d.store a v).x = Memory.write a.toNat v d.x := rfl
@[simp] theorem Device.store_ptr (d : Device) (a v : Byte) : (d.store a v).ptr = d.ptr := rfl
@[simp] theorem Device.store_cal (d : Device) (a v : Byte) : (d.store a v).cal = d.cal := rfl
@[simp] theorem Device.store_flag (d : Device) (a v : Byte) : (d.store a v).flag = d.flag := rfl

@[simp] theorem Device.setPtr_x (d : Device) (p : Option Byte) : (d.setPtr p).x = d.x := rfl
@[simp] theorem Device.setPtr_ptr (d : Device) (p : Option Byte) : (d.setPtr p).ptr = p := rfl
@[simp] theorem Device.setPtr_cal (d : Device) (p : Option Byte) : (d.setPtr p).cal = d.cal := rfl
@[simp] theorem Device.setPtr_flag (d : Device) (p : Option Byte) : (d.setPtr p).flag = d.flag := rfl
@[simp] theorem Device.setPtr_load (d : Device) (p : Option Byte) (b : Byte) : (d.setPtr p).load b = d.load b := rfl

@[simp] theorem Device.setCal_x (d : Device) (c : Calendar) : (d.setCal c).x = d.x := rfl
@[simp] theorem Device.setCal_ptr (d : Device) (c : Calendar) : (d.setCal c).ptr = d.ptr := rfl
@[simp] theorem Device.setCal_cal (d : Device) (c : Calendar) : (d.setCal c).cal = c := rfl
@[simp] theorem Device.setCal_flag (d : Device) (c : Calendar) : (d.setCal c).flag = d.flag := rfl
@[simp] theorem Device.setCal_load (d : Device) (c : Calendar) (b : Byte) : (d.setCal c).load b = d.load b := rfl

@[simp] theorem Device.setFlag_x (d : Device) (f : Flags) : (d.setFlag f).x = d.x := rfl
@[simp] theorem Device.setFlag_ptr (d : Device) (f : Flags) : (d.setFlag f).ptr = d.ptr := rfl
@[simp] theorem Device.setFlag_cal (d : Device) (f : Flags) : (d.setFlag f).cal = d.cal := rfl
@[simp] theorem Device.setFlag_flag (d : Device) (f : Flags) : (d.setFlag f).flag = f := rfl
@[simp] theorem Device.setFlag_load (d : Device) (f : Flags) (b : Byte) : (d.setFlag f).load b = d.load b := rfl

/-- RESET leaves the device of R37 whatever was there. -/
@[simp] theorem Device.toReset_eq (d : Device) : d.toReset = Device.reset := rfl

@[simp] theorem State.reset_dev : State.reset.dev = Device.reset := rfl

/-- All that completing an operation can do. -/
theorem State.finish_eq_next {s t : State} {d : Device} {out : List Byte} :
    s.finish d out = .next t ↔ t = { s with dev := d, out := out, diag := .none } := by
  constructor
  · intro h; cases h; rfl
  · rintro rfl; rfl

/-- All that raising a diagnostic can do: the device and the input are as they were. -/
theorem State.raiseDiag_eq_next {s t : State} {c : Diag} :
    s.raiseDiag c = .next t ↔ t = { s with out := [], diag := c } := by
  constructor
  · intro h; cases h; rfl
  · rintro rfl; rfl

end Sys2Proof.Machine
end

