-- ==== Sys2Proof/Laws/Memory.lean ====
section
/-! SUPPORT. The stored bytes: a read after a write at the same address gives the byte written, a write leaves every other
address alone, and every memory operation keeps the canonical form. -/

namespace Sys2Proof.Machine

theorem Memory.read_drop_same (a : Nat) (m : Memory) : Memory.read a (Memory.drop a m) = Memory.unlisted a := by
  induction m with
  | nil => rfl
  | cons c m ih =>
    obtain ⟨b, w⟩ := c
    by_cases h : a = b <;> simp [Memory.drop, Memory.read, h] <;> simpa [h] using ih

theorem Memory.read_drop_other {a b : Nat} (h : b ≠ a) (m : Memory) :
    Memory.read b (Memory.drop a m) = Memory.read b m := by
  induction m with
  | nil => rfl
  | cons c m ih =>
    obtain ⟨e, w⟩ := c
    by_cases h1 : a = e
    · subst h1; simp [Memory.drop, Memory.read, h, ih]
    · by_cases h2 : b = e <;> simp [Memory.drop, Memory.read, h1, h2, ih]

theorem Memory.read_insert_drop_same (a : Nat) (v : Byte) (m : Memory) :
    Memory.read a (Memory.insert a v (Memory.drop a m)) = v := by
  induction m with
  | nil => simp [Memory.drop, Memory.insert, Memory.read]
  | cons c m ih =>
    obtain ⟨b, w⟩ := c
    by_cases h1 : a = b
    · simpa [Memory.drop, h1] using ih
    · by_cases h2 : a < b <;> simp [Memory.drop, Memory.insert, Memory.read, h1, h2, ih]

theorem Memory.read_insert_other {a b : Nat} (h : b ≠ a) (v : Byte) (m : Memory) :
    Memory.read b (Memory.insert a v m) = Memory.read b m := by
  induction m with
  | nil => simp [Memory.insert, Memory.read, h]
  | cons c m ih =>
    obtain ⟨e, w⟩ := c
    by_cases h1 : a < e <;> by_cases h2 : b = e <;> simp [Memory.insert, Memory.read, h1, h2, h, ih]
    omega

/-- A read after a write at the same address gives the byte written, in every memory. -/
@[simp] theorem Memory.read_write_same (a : Nat) (v : Byte) (m : Memory) :
    Memory.read a (Memory.write a v m) = v := by
  by_cases h : v = Memory.unlisted a
  · simp [Memory.write, h, Memory.read_drop_same]
  · simp [Memory.write, h, Memory.read_insert_drop_same]

/-- A write leaves every other address alone, in every memory. -/
theorem Memory.read_write_other {a b : Nat} (h : b ≠ a) (v : Byte) (m : Memory) :
    Memory.read b (Memory.write a v m) = Memory.read b m := by
  by_cases hv : v = Memory.unlisted a
  · simp [Memory.write, hv, Memory.read_drop_other h]
  · simp [Memory.write, hv, Memory.read_insert_other h, Memory.read_drop_other h]

theorem Memory.wfFrom_cons {lo a : Nat} {v : Byte} {m : Memory} :
    Memory.wfFrom lo ((a, v) :: m) = true ↔
      lo ≤ a ∧ a < 256 ∧ v ≠ Memory.unlisted a ∧ Memory.wfFrom (a + 1) m = true := by
  simp [Memory.wfFrom, and_assoc]

theorem Memory.wfFrom_mono {lo hi : Nat} (h : lo ≤ hi) {m : Memory} (hm : Memory.wfFrom hi m = true) :
    Memory.wfFrom lo m = true := by
  cases m with
  | nil => rfl
  | cons c m =>
    rw [Memory.wfFrom_cons] at hm ⊢
    exact ⟨h.trans hm.1, hm.2⟩

theorem Memory.wfFrom_drop (a : Nat) {lo : Nat} {m : Memory} (hm : Memory.wfFrom lo m = true) :
    Memory.wfFrom lo (Memory.drop a m) = true := by
  induction m generalizing lo with
  | nil => rfl
  | cons c m ih =>
    obtain ⟨b, w⟩ := c
    rw [Memory.wfFrom_cons] at hm
    by_cases h : a = b
    · simpa [Memory.drop, h] using Memory.wfFrom_mono (by omega) (h ▸ ih hm.2.2.2)
    · simpa [Memory.drop, h, Memory.wfFrom_cons] using ⟨hm.1, hm.2.1, hm.2.2.1, ih hm.2.2.2⟩

theorem Memory.wfFrom_insert_drop {a lo : Nat} {v : Byte} (hlo : lo ≤ a) (ha : a < 256) (hv : v ≠ Memory.unlisted a)
    {m : Memory} (hm : Memory.wfFrom lo m = true) : Memory.wfFrom lo (Memory.insert a v (Memory.drop a m)) = true := by
  induction m generalizing lo with
  | nil => simpa [Memory.drop, Memory.insert, Memory.wfFrom_cons] using ⟨hlo, ha, hv, rfl⟩
  | cons c m ih =>
    obtain ⟨b, w⟩ := c
    rw [Memory.wfFrom_cons] at hm
    by_cases h1 : a = b
    · subst h1
      simpa [Memory.drop] using ih hlo (Memory.wfFrom_mono (by omega) hm.2.2.2)
    · by_cases h2 : a < b
      · simp only [Memory.drop, h1, if_false, Memory.insert, h2, if_true, Memory.wfFrom_cons]
        exact ⟨hlo, ha, hv, by omega, hm.2.1, hm.2.2.1, Memory.wfFrom_drop a hm.2.2.2⟩
      · simp only [Memory.drop, h1, if_false, Memory.insert, h2, Memory.wfFrom_cons]
        exact ⟨hm.1, hm.2.1, hm.2.2.1, ih (by omega) hm.2.2.2⟩

/-- A write at an existing address keeps the canonical form. -/
theorem Memory.wf_write {a : Nat} (ha : a < 256) (v : Byte) {m : Memory} (hm : Memory.wf m = true) :
    Memory.wf (Memory.write a v m) = true := by
  by_cases hv : v = Memory.unlisted a
  · simpa [Memory.write, hv, Memory.wf] using Memory.wfFrom_drop a hm
  · simpa [Memory.write, hv, Memory.wf] using Memory.wfFrom_insert_drop (Nat.zero_le a) ha hv hm

/-- The reset memory is canonical. -/
@[simp] theorem Memory.wf_nil : Memory.wf [] = true := rfl

/-- Storing a byte keeps the canonical form. -/
theorem Device.wf_store (a v : Byte) {d : Device} (h : Memory.wf d.x = true) : Memory.wf (d.store a v).x = true :=
  Memory.wf_write a.isLt v h

@[simp] theorem Device.load_store_same (d : Device) (a v : Byte) : (d.store a v).load a = v := by
  simp [Device.load]

theorem Device.load_store_other {a b : Byte} (h : b ≠ a) (v : Byte) (d : Device) :
    (d.store a v).load b = d.load b :=
  Memory.read_write_other (fun e => h (BitVec.eq_of_toNat_eq e)) v d.x

/-- All a store can do to what the addresses hold. -/
theorem Device.load_store (d : Device) (a v b : Byte) :
    (d.store a v).load b = if b = a then v else d.load b := by
  by_cases h : b = a
  · simp [h]
  · simp [h, Device.load_store_other h]

end Sys2Proof.Machine
end

