-- ==== Sys2Proof/Laws/Registers.lean ====
section
/-! SUPPORT. What RegWrite and RegRead can do, said once: which part of the device each register write touches, and what each
register read is as arithmetic. -/

namespace Sys2Proof

/-- The register an address decodes to is one that holds the address. -/
theorem RegName.ofAddr_covers : ∀ a : Byte, (RegName.ofAddr a).covers a = true := by decide

/-- An address of UNDEF_HI is none of the addresses with behaviour. -/
theorem ne_behavioural_of_ge {a : Byte} (h : 0x14 ≤ a.toNat) :
    (a ≠ 0x00 ∧ a ≠ 0x01 ∧ a ≠ 0x02 ∧ a ≠ 0x03 ∧ a ≠ 0x04 ∧ a ≠ 0x05 ∧ a ≠ 0x06) ∧ a ≠ 0x0E ∧ a ≠ 0x0F := by
  refine ⟨⟨?_, ?_, ?_, ?_, ?_, ?_, ?_⟩, ?_, ?_⟩ <;> rintro rfl <;> simp at h

end Sys2Proof

namespace Sys2Proof.Machine

/-- Every register write stores the whole byte at its address and no other (R18, R99). -/
@[simp] theorem regWrite_x (a v : Byte) (d : Device) : (regWrite a v d).x = Memory.write a.toNat v d.x := by
  have h := RegName.ofAddr_covers a
  cases hr : RegName.ofAddr a <;> simp only [hr, RegName.covers, beq_iff_eq] at h <;> subst_vars <;>
    simp only [regWrite, hr] <;> rfl

/-- No register write touches the pointer. -/
@[simp] theorem regWrite_ptr (a v : Byte) (d : Device) : (regWrite a v d).ptr = d.ptr := by
  unfold regWrite
  split <;> rfl

/-- What the addresses hold after a register write. -/
theorem regWrite_load (a v : Byte) (d : Device) (b : Byte) :
    (regWrite a v d).load b = if b = a then v else d.load b := by
  rw [← Device.load_store, Device.load, Device.load, regWrite_x, Device.store_x]

/-- All a register write can do to the calendar. -/
theorem regWrite_cal (a v : Byte) (d : Device) : (regWrite a v d).cal =
    if a = 0x00 then { d.cal with second := bcd7 v }
    else if a = 0x01 then { d.cal with minute := bcd7 v }
    else if a = 0x02 then { d.cal with hour := bcd6 v }
    else if a = 0x03 then { d.cal with dayOfWeek := rawWeekday v }
    else if a = 0x04 then { d.cal with dayOfMonth := bcd6 v }
    else if a = 0x05 then { d.cal with month := bcd5 v }
    else if a = 0x06 then { d.cal with year := yearOperand d.flag.century v }
    else d.cal := by
  have h := RegName.ofAddr_covers a
  cases hr : RegName.ofAddr a <;> simp only [hr, RegName.covers, beq_iff_eq, decide_eq_true_eq] at h
  case undefHi =>
    obtain ⟨⟨h0, h1, h2, h3, h4, h5, h6⟩, -⟩ := ne_behavioural_of_ge h
    rw [if_neg h0, if_neg h1, if_neg h2, if_neg h3, if_neg h4, if_neg h5, if_neg h6]
    simp only [regWrite, hr]
    rfl
  all_goals subst h; rfl

/-- All a register write can do to the flags. -/
theorem regWrite_flag (a v : Byte) (d : Device) : (regWrite a v d).flag =
    if a = 0x02 then d.flag.afterHours v
    else if a = 0x05 then d.flag.afterMonth v
    else if a = 0x0E then d.flag.afterControl v
    else d.flag := by
  have h := RegName.ofAddr_covers a
  cases hr : RegName.ofAddr a <;> simp only [hr, RegName.covers, beq_iff_eq, decide_eq_true_eq] at h
  case undefHi =>
    obtain ⟨⟨-, -, h2, -, -, h5, -⟩, hE, -⟩ := ne_behavioural_of_ge h
    rw [if_neg h2, if_neg h5, if_neg hE]
    simp only [regWrite, hr]
    rfl
  all_goals subst h; rfl

/-- A register write keeps the canonical form of the stored bytes. -/
theorem regWrite_wf (a v : Byte) {d : Device} (h : Memory.wf d.x = true) : Memory.wf (regWrite a v d).x = true := by
  rw [regWrite_x]
  exact Memory.wf_write a.isLt v h

/-- SECONDS as arithmetic (R80). -/
theorem regrSeconds_eq (d : Device) : regrSeconds d =
    BitVec.ofNat 8 ((d.load 0x00).toNat / 128 * 128 + (d.cal.second.toNat / 10 * 16 + d.cal.second.toNat % 10) % 128) := by
  have := (d.load 0x00).isLt
  simp only [regrSeconds, cat, slice_eq, enc_eq]
  congr 1; omega

/-- MINUTES as arithmetic (R82). -/
theorem regrMinutes_eq (d : Device) : regrMinutes d =
    BitVec.ofNat 8 ((d.load 0x01).toNat / 128 * 128 + (d.cal.minute.toNat / 10 * 16 + d.cal.minute.toNat % 10) % 128) := by
  have := (d.load 0x01).isLt
  simp only [regrMinutes, cat, slice_eq, enc_eq]
  congr 1; omega

/-- HOURS as arithmetic (R84). -/
theorem regrHours_eq (d : Device) : regrHours d =
    BitVec.ofNat 8 ((d.load 0x02).toNat / 128 * 128 + d.flag.mode12.toNat * 64 + d.flag.pm20.toNat * 32 +
      (d.cal.hour.toNat / 10 * 16 + d.cal.hour.toNat % 10) % 32) := by
  have h0 := (d.load 0x02).isLt
  have h1 := Bool.toNat_lt d.flag.mode12
  have h2 := Bool.toNat_lt d.flag.pm20
  simp only [regrHours, cat, slice_eq, enc_eq]
  congr 1; omega

/-- DAYOFWEEK as arithmetic (R86). -/
theorem regrDayOfWeek_eq (d : Device) : regrDayOfWeek d =
    BitVec.ofNat 8 ((d.load 0x03).toNat / 8 * 8 + d.cal.dayOfWeek.toNat) := by
  have h0 := (d.load 0x03).isLt
  have h1 := d.cal.dayOfWeek.isLt
  simp only [regrDayOfWeek, cat, slice_eq]
  congr 1; omega

/-- DAYOFMONTH as arithmetic (R88). -/
theorem regrDayOfMonth_eq (d : Device) : regrDayOfMonth d =
    BitVec.ofNat 8 ((d.load 0x04).toNat / 64 * 64 + (d.cal.dayOfMonth.toNat / 10 * 16 + d.cal.dayOfMonth.toNat % 10) % 64) := by
  have := (d.load 0x04).isLt
  simp only [regrDayOfMonth, cat, slice_eq, enc_eq]
  congr 1; omega

/-- MONTH as arithmetic (R90). -/
theorem regrMonth_eq (d : Device) : regrMonth d =
    BitVec.ofNat 8 (d.flag.century.toNat * 128 + (d.load 0x05).toNat / 32 % 4 * 32 +
      (d.cal.month.toNat / 10 * 16 + d.cal.month.toNat % 10) % 32) := by
  simp only [regrMonth, cat, slice_eq, enc_eq]
  congr 1; omega

/-- YEAR as arithmetic (R92). -/
theorem regrYear_eq (d : Device) : regrYear d =
    BitVec.ofNat 8 (yearOffset d.flag.century d.cal.year / 10 * 16 + yearOffset d.flag.century d.cal.year % 10) := by
  rw [regrYear, enc_eq]

/-- CONTROL as arithmetic (R94). -/
theorem regrControl_eq (d : Device) : regrControl d =
    BitVec.ofNat 8 ((!d.flag.oscEn).toNat * 128 + (d.load 0x0E).toNat % 128) := by
  simp only [regrControl, cat, slice_eq]
  congr 1; omega

end Sys2Proof.Machine
end

