-- ==== Sys2Proof/Laws/Bus.lean ====
section
/-! SUPPORT. The data bytes of a WRITE: where the pointer ends, and one induction for everything a WRITE keeps. -/

namespace Sys2Proof.Machine

@[simp] theorem writeRegs_nil (p : Byte) (d : Device) : writeRegs p [] d = d.setPtr (some p) := rfl

@[simp] theorem writeRegs_cons (p v : Byte) (vs : List Byte) (d : Device) :
    writeRegs p (v :: vs) d = writeRegs (p + 1) vs (regWrite p v d) := rfl

/-- The pointer ends one past the last register written (R102). -/
theorem writeRegs_ptr (p : Byte) (vs : List Byte) (d : Device) :
    (writeRegs p vs d).ptr = some (p + BitVec.ofNat 8 vs.length) := by
  induction vs generalizing p d with
  | nil => simp
  | cons v vs ih =>
    rw [writeRegs_cons, ih, List.length_cons, BitVec.ofNat_add, BitVec.add_assoc, BitVec.add_comm 1]
    rfl

/-- An address reached after the first data byte is reached by the whole (R54). -/
theorem sub_lt_of_sub_succ_lt {a p : Byte} {n : Nat} (h : (a - (p + 1)).toNat < n) : (a - p).toNat < n + 1 := by
  have e : a - p = (a - (p + 1)) + 1 := by
    rw [← BitVec.sub_sub, BitVec.sub_add_cancel]
  rw [e, BitVec.toNat_add]
  exact lt_of_le_of_lt (Nat.mod_le _ _) (by simpa using Nat.succ_lt_succ h)

/-- What holds of a device, is kept by every register write at an address the data reach, and does not depend on the
pointer, holds after a WRITE's data bytes. -/
theorem writeRegs_keeps {P : Device → Prop} (p : Byte) (vs : List Byte) (d : Device)
    (hw : ∀ a v e, (a - p).toNat < vs.length → P e → P (regWrite a v e))
    (hp : ∀ q e, P e → P (e.setPtr q)) (hd : P d) : P (writeRegs p vs d) := by
  induction vs generalizing p d with
  | nil => exact hp _ _ hd
  | cons v vs ih =>
    rw [writeRegs_cons]
    refine ih (p + 1) _ (fun a w e ha he => hw a w e ?_ he) (hw p v d (by simp) hd)
    simpa using sub_lt_of_sub_succ_lt ha

end Sys2Proof.Machine
end

