-- ==== Sys2Proof/Laws/Calendar.lean ====
section
/-! SUPPORT. The advance as a function of which fields carry, and what it leaves alone. -/

namespace Sys2Proof.Machine

/-- Every month has 28 to 31 days. -/
theorem daysInMonth_bounds (m y : Nat) : 28 ≤ daysInMonth m y ∧ daysInMonth m y ≤ 31 := by
  unfold daysInMonth
  split
  · omega
  · split
    · split <;> omega
    · omega

/-- The leap rule as a proposition (R73). -/
theorem isLeap_iff (y : Nat) : isLeap y = true ↔ (y % 4 = 0 ∧ y % 100 ≠ 0) ∨ y % 400 = 0 := by
  simp [isLeap]

/-- The weekday step as arithmetic (R74). -/
theorem stepWeekday_toNat (w : Weekday) :
    (stepWeekday w).toNat = if 7 ≤ w.toNat then 1 else w.toNat + 1 := by
  have := w.isLt
  simp only [stepWeekday, Config.dowAdvances, if_true]
  split
  · rfl
  · rw [BitVec.toNat_add]; simp; omega

/-- While the oscillator is stopped the advance is the identity (R71). -/
theorem advanceOneSecond_stopped {d : Device} (h : d.flag.oscEn = false) : d.advanceOneSecond = d := by
  simp [Device.advanceOneSecond, h]

/-- While it runs, the advance replaces the calendar and recomputes pm20 (R71, R75, R77). -/
theorem advanceOneSecond_running {d : Device} (h : d.flag.oscEn = true) :
    d.advanceOneSecond = (d.setCal d.cal.advance).setFlag (d.flag.afterAdvance d.cal.advance.hour) := by
  simp [Device.advanceOneSecond, h]

/-- The advance touches no stored byte (R77). -/
@[simp] theorem advanceOneSecond_x (d : Device) : d.advanceOneSecond.x = d.x := by
  unfold Device.advanceOneSecond; split <;> rfl

/-- The advance does not touch the pointer (R77, R108). -/
@[simp] theorem advanceOneSecond_ptr (d : Device) : d.advanceOneSecond.ptr = d.ptr := by
  unfold Device.advanceOneSecond; split <;> rfl

/-- All the advance can do: one of six cases, by how far the carry runs (R71). -/
theorem Calendar.advance_cases (c : Calendar) :
    (c.second.toNat < 59 ∧ c.advance = { c with second := c.second + 1 }) ∨
    (59 ≤ c.second.toNat ∧ c.minute.toNat < 59 ∧ c.advance = { c with second := 0, minute := c.minute + 1 }) ∨
    (59 ≤ c.second.toNat ∧ 59 ≤ c.minute.toNat ∧ c.hour.toNat < 23 ∧
      c.advance = { c with second := 0, minute := 0, hour := c.hour + 1 }) ∨
    (59 ≤ c.second.toNat ∧ 59 ≤ c.minute.toNat ∧ 23 ≤ c.hour.toNat ∧
      c.dayOfMonth.toNat < daysInMonth c.month.toNat c.year.toNat ∧
      c.advance = { c with second := 0, minute := 0, hour := 0, dayOfWeek := stepWeekday c.dayOfWeek,
                           dayOfMonth := c.dayOfMonth + 1 }) ∨
    (59 ≤ c.second.toNat ∧ 59 ≤ c.minute.toNat ∧ 23 ≤ c.hour.toNat ∧
      daysInMonth c.month.toNat c.year.toNat ≤ c.dayOfMonth.toNat ∧ c.month.toNat < 12 ∧
      c.advance = { c with second := 0, minute := 0, hour := 0, dayOfWeek := stepWeekday c.dayOfWeek,
                           dayOfMonth := 1, month := c.month + 1 }) ∨
    (59 ≤ c.second.toNat ∧ 59 ≤ c.minute.toNat ∧ 23 ≤ c.hour.toNat ∧
      daysInMonth c.month.toNat c.year.toNat ≤ c.dayOfMonth.toNat ∧ 12 ≤ c.month.toNat ∧
      c.advance = { c with second := 0, minute := 0, hour := 0, dayOfWeek := stepWeekday c.dayOfWeek,
                           dayOfMonth := 1, month := 1, year := c.year + 1 }) := by
  by_cases hs : 59 ≤ c.second.toNat
  · by_cases hm : 59 ≤ c.minute.toNat
    · by_cases hh : 23 ≤ c.hour.toNat
      · by_cases hd : daysInMonth c.month.toNat c.year.toNat ≤ c.dayOfMonth.toNat
        · by_cases hmo : 12 ≤ c.month.toNat
          · simp [Calendar.advance, Calendar.carryMinute, Calendar.carryHour, Calendar.carryDay, Calendar.carryMonth,
              hs, hm, hh, hd, hmo]
          · have := Nat.lt_of_not_le hmo
            simp [Calendar.advance, Calendar.carryMinute, Calendar.carryHour, Calendar.carryDay, Calendar.carryMonth,
              hs, hm, hh, hd, hmo, this]
        · have := Nat.lt_of_not_le hd
          simp [Calendar.advance, Calendar.carryMinute, Calendar.carryHour, Calendar.carryDay, hs, hm, hh, hd, this]
      · have := Nat.lt_of_not_le hh
        simp [Calendar.advance, Calendar.carryMinute, Calendar.carryHour, hs, hm, hh, this]
    · have := Nat.lt_of_not_le hm
      simp [Calendar.advance, Calendar.carryMinute, hs, hm, this]
  · have := Nat.lt_of_not_le hs
    simp [Calendar.advance, hs, this]

end Sys2Proof.Machine
end

