-- ==== Sys2Proof/Laws/PerInstr.lean ====
section
/-! SUPPORT. Statements made for each constructor of Instr. EncodedLength: the encoding of an instruction has the length of
R58 to R60, at least one byte and, when it is well formed, at most 257. -/

namespace Sys2Proof.Laws.EncodedLength

/-- The encoding has the frame or word length of R58 to R60, never empty and at most 2 + 255 bytes when well formed. -/
def Statement (i : Sys2Proof.Instr) : Prop :=
  (Sys2Proof.encode i).length = i.length ∧ 1 ≤ i.length ∧ (i.wellFormed = true → i.length ≤ 257)

/-- The lengths are small numbers for every instruction but WRITE. -/
theorem of_length {i : Instr} (h : (encode i).length = i.length) (h1 : 1 ≤ i.length) (h2 : i.length ≤ 2) : Statement i :=
  ⟨h, h1, fun _ => h2.trans (by decide)⟩

theorem nop : Statement .nop := of_length rfl (Nat.le_refl 1) (Nat.le_succ 1)
theorem write (bytes : List Byte) : Statement (.write bytes) := by
  simp only [Statement, encode, Instr.length, Instr.wellFormed, List.length_cons, decide_eq_true_eq]
  omega
theorem read (count : Nat) : Statement (.read count) := of_length rfl (Nat.le_succ 1) (Nat.le_refl 2)
theorem endTransaction : Statement .endTransaction := of_length rfl (Nat.le_refl 1) (Nat.le_succ 1)
theorem tick : Statement .tick := of_length rfl (Nat.le_refl 1) (Nat.le_succ 1)
theorem reset : Statement .reset := of_length rfl (Nat.le_refl 1) (Nat.le_succ 1)
theorem regwSeconds (v : Byte) : Statement (.regwSeconds v) := of_length rfl (Nat.le_succ 1) (Nat.le_refl 2)
theorem regwMinutes (v : Byte) : Statement (.regwMinutes v) := of_length rfl (Nat.le_succ 1) (Nat.le_refl 2)
theorem regwHours (v : Byte) : Statement (.regwHours v) := of_length rfl (Nat.le_succ 1) (Nat.le_refl 2)
theorem regwDayOfWeek (v : Byte) : Statement (.regwDayOfWeek v) := of_length rfl (Nat.le_succ 1) (Nat.le_refl 2)
theorem regwDayOfMonth (v : Byte) : Statement (.regwDayOfMonth v) := of_length rfl (Nat.le_succ 1) (Nat.le_refl 2)
theorem regwMonth (v : Byte) : Statement (.regwMonth v) := of_length rfl (Nat.le_succ 1) (Nat.le_refl 2)
theorem regwYear (v : Byte) : Statement (.regwYear v) := of_length rfl (Nat.le_succ 1) (Nat.le_refl 2)
theorem regwAlarm1_0 (v : Byte) : Statement (.regwAlarm1_0 v) := of_length rfl (Nat.le_succ 1) (Nat.le_refl 2)
theorem regwAlarm1_1 (v : Byte) : Statement (.regwAlarm1_1 v) := of_length rfl (Nat.le_succ 1) (Nat.le_refl 2)
theorem regwAlarm1_2 (v : Byte) : Statement (.regwAlarm1_2 v) := of_length rfl (Nat.le_succ 1) (Nat.le_refl 2)
theorem regwAlarm1_3 (v : Byte) : Statement (.regwAlarm1_3 v) := of_length rfl (Nat.le_succ 1) (Nat.le_refl 2)
theorem regwAlarm2_0 (v : Byte) : Statement (.regwAlarm2_0 v) := of_length rfl (Nat.le_succ 1) (Nat.le_refl 2)
theorem regwAlarm2_1 (v : Byte) : Statement (.regwAlarm2_1 v) := of_length rfl (Nat.le_succ 1) (Nat.le_refl 2)
theorem regwAlarm2_2 (v : Byte) : Statement (.regwAlarm2_2 v) := of_length rfl (Nat.le_succ 1) (Nat.le_refl 2)
theorem regwControl (v : Byte) : Statement (.regwControl v) := of_length rfl (Nat.le_succ 1) (Nat.le_refl 2)
theorem regwStatus (v : Byte) : Statement (.regwStatus v) := of_length rfl (Nat.le_succ 1) (Nat.le_refl 2)
theorem regwAgingOffset (v : Byte) : Statement (.regwAgingOffset v) := of_length rfl (Nat.le_succ 1) (Nat.le_refl 2)
theorem regwTempMsb (v : Byte) : Statement (.regwTempMsb v) := of_length rfl (Nat.le_succ 1) (Nat.le_refl 2)
theorem regwUndef12 (v : Byte) : Statement (.regwUndef12 v) := of_length rfl (Nat.le_succ 1) (Nat.le_refl 2)
theorem regwTempConv (v : Byte) : Statement (.regwTempConv v) := of_length rfl (Nat.le_succ 1) (Nat.le_refl 2)
theorem regwUndefHi (a v : Byte) : Statement (.regwUndefHi a v) := of_length rfl (Nat.le_succ 1) (Nat.le_refl 2)
theorem regrSeconds : Statement .regrSeconds := of_length rfl (Nat.le_refl 1) (Nat.le_succ 1)
theorem regrMinutes : Statement .regrMinutes := of_length rfl (Nat.le_refl 1) (Nat.le_succ 1)
theorem regrHours : Statement .regrHours := of_length rfl (Nat.le_refl 1) (Nat.le_succ 1)
theorem regrDayOfWeek : Statement .regrDayOfWeek := of_length rfl (Nat.le_refl 1) (Nat.le_succ 1)
theorem regrDayOfMonth : Statement .regrDayOfMonth := of_length rfl (Nat.le_refl 1) (Nat.le_succ 1)
theorem regrMonth : Statement .regrMonth := of_length rfl (Nat.le_refl 1) (Nat.le_succ 1)
theorem regrYear : Statement .regrYear := of_length rfl (Nat.le_refl 1) (Nat.le_succ 1)
theorem regrAlarm1_0 : Statement .regrAlarm1_0 := of_length rfl (Nat.le_refl 1) (Nat.le_succ 1)
theorem regrAlarm1_1 : Statement .regrAlarm1_1 := of_length rfl (Nat.le_refl 1) (Nat.le_succ 1)
theorem regrAlarm1_2 : Statement .regrAlarm1_2 := of_length rfl (Nat.le_refl 1) (Nat.le_succ 1)
theorem regrAlarm1_3 : Statement .regrAlarm1_3 := of_length rfl (Nat.le_refl 1) (Nat.le_succ 1)
theorem regrAlarm2_0 : Statement .regrAlarm2_0 := of_length rfl (Nat.le_refl 1) (Nat.le_succ 1)
theorem regrAlarm2_1 : Statement .regrAlarm2_1 := of_length rfl (Nat.le_refl 1) (Nat.le_succ 1)
theorem regrAlarm2_2 : Statement .regrAlarm2_2 := of_length rfl (Nat.le_refl 1) (Nat.le_succ 1)
theorem regrControl : Statement .regrControl := of_length rfl (Nat.le_refl 1) (Nat.le_succ 1)
theorem regrStatus : Statement .regrStatus := of_length rfl (Nat.le_refl 1) (Nat.le_succ 1)
theorem regrAgingOffset : Statement .regrAgingOffset := of_length rfl (Nat.le_refl 1) (Nat.le_succ 1)
theorem regrTempMsb : Statement .regrTempMsb := of_length rfl (Nat.le_refl 1) (Nat.le_succ 1)
theorem regrUndef12 : Statement .regrUndef12 := of_length rfl (Nat.le_refl 1) (Nat.le_succ 1)
theorem regrTempConv : Statement .regrTempConv := of_length rfl (Nat.le_refl 1) (Nat.le_succ 1)
theorem regrUndefHi (a : Byte) : Statement (.regrUndefHi a) := of_length rfl (Nat.le_refl 1) (Nat.le_succ 1)

end Sys2Proof.Laws.EncodedLength
end

