-- ==== Sys2Proof/Laws/Step.lean ====
section
/-! SUPPORT. All a step can do, and where withFetchWord puts a row's bytes. -/

namespace Sys2Proof.Machine

/-- All a step that answers can have done: an instruction decoded, its bytes consumed, its meaning run. -/
theorem step_eq_next {s t : State} (h : step s = .next t) :
    ∃ i rest, decode s.port s.stream = .ok (i, rest) ∧ exec i { s with stream := rest } = .next t := by
  unfold step at h
  split at h
  · next i rest hd => exact ⟨i, rest, hd, h⟩
  · cases h

@[simp] theorem withFetchWord_dev (s : State) (nbits w : Nat) : (s.withFetchWord nbits w).dev = s.dev := rfl
@[simp] theorem withFetchWord_port (s : State) (nbits w : Nat) :
    (s.withFetchWord nbits w).port = (tableLayout nbits w).1 := rfl
@[simp] theorem withFetchWord_stream (s : State) (nbits w : Nat) :
    (s.withFetchWord nbits w).stream = (tableLayout nbits w).2 ++ s.stream := rfl
@[simp] theorem withFetchWord_out (s : State) (nbits w : Nat) : (s.withFetchWord nbits w).out = s.out := rfl
@[simp] theorem withFetchWord_diag (s : State) (nbits w : Nat) : (s.withFetchWord nbits w).diag = s.diag := rfl

end Sys2Proof.Machine
end

