-- ==== Sys2Proof/Tests/Slice0.lean ====
section
/-! SUPPORT. Tests whose expected results are the vectors of spec/95_test_vectors.md, the encodings of spec/30_encoding.md and the
worked examples of the rules, and one witness for the hypotheses of each statement. -/

namespace Sys2Proof.Tests

open Sys2Proof.Machine

/-- One field of the state after one operation, where it answers one. -/
def after {α : Type} (i : Instr) (s : State) (f : State → α) : Option α :=
  match exec i s with
  | .next t => some (f t)
  | .fault _ => none
  | .refused _ => none

/-- One field of the state after one step, where it answers one. -/
def afterStep {α : Type} (s : State) (f : State → α) : Option α :=
  match step s with
  | .next t => some (f t)
  | .fault _ => none
  | .refused _ => none

/-- The refusal of one step, where it refuses. -/
def refusedBy (s : State) : Option Refusal :=
  match step s with
  | .refused r => some r
  | .next _ => none
  | .fault _ => none

/-- The reset state with another calendar and flags. -/
def withCal (c : Calendar) (f : Flags) : State :=
  { State.reset with dev := { State.reset.dev with cal := c, flag := f } }

/-- The reset state with a pointer. -/
def withPtr (p : Option Byte) : State := { State.reset with dev := { State.reset.dev with ptr := p } }

/-- The reset state with command bytes delivered. -/
def withStream (port : Space) (bytes : List Byte) : State := { State.reset with port := port, stream := bytes }

/-- hh, mm, ss, weekday, day, month, year with the flags of reset. -/
def clock (hh mm ss : Byte) (wd : Weekday) (dd mo : Byte) (yy : Year) : Calendar :=
  { second := ss, minute := mm, hour := hh, dayOfWeek := wd, dayOfMonth := dd, month := mo, year := yy }

/-- The calendar and pm20 after one TICK from a calendar with pm20 clear and the oscillator running. -/
def ticked (c : Calendar) : Option (Calendar × Bool) :=
  after .tick (withCal c Flags.reset) fun t => (t.dev.cal, t.dev.flag.pm20)

/-- What register `a` reads after `v` was written to it by a WRITE from reset (the V2 and V4 tables). -/
def readBack (a v : Byte) : Option Byte := after (.write [a, v]) State.reset fun t => regRead a t.dev

/-! ### Well-formedness: one ill-formed term for each check -/

theorem test_wf_write_length (bytes : List Byte) : (Instr.write bytes).wellFormed = decide (bytes.length ≤ 255) := rfl

theorem test_wf_write_too_long : (Instr.write (List.replicate 256 0)).wellFormed = false := by
  rw [test_wf_write_length, List.length_replicate]; decide
theorem test_wf_count_too_large : (Instr.read 256).wellFormed = false := by decide
theorem test_wf_undef_write_address : (Instr.regwUndefHi 0x13 0x00).wellFormed = false := by decide
theorem test_wf_undef_read_address : (Instr.regrUndefHi 0x0E).wellFormed = false := by decide
theorem test_wf_boundaries : (Instr.read 255).wellFormed = true ∧ (Instr.regwUndefHi 0x14 0x00).wellFormed = true := by
  decide

/-! ### Decoding: words written out from R56, R58 and V8 -/

theorem test_decode_commands_without_operand :
    decode .command [0b00000000] = .ok (.nop, []) ∧ decode .command [0b00000011] = .ok (.endTransaction, []) ∧
    decode .command [0b00000100] = .ok (.tick, []) ∧ decode .command [0b00000101] = .ok (.reset, []) := by decide
theorem test_decode_write :
    decode .command [0x01, 0x00] = .ok (.write [], []) ∧ decode .command [0x01, 0x01, 0x00] = .ok (.write [0x00], []) ∧
    decode .command [0x01, 0x03, 0x0E, 0x9C, 0x00, 0x04] = .ok (.write [0x0E, 0x9C, 0x00], [0x04]) := by decide
theorem test_decode_read :
    decode .command [0x02, 0x00] = .ok (.read 0, []) ∧ decode .command [0x02, 0x07, 0x03] = .ok (.read 7, [0x03]) := by
  decide
theorem test_decode_invalid :
    decode .command [0x06] = .error (.reserved 0x06) ∧ decode .command [0xFF] = .error (.reserved 0xFF) ∧
    decode .command [0x01] = .error .truncated ∧ decode .command [0x01, 0x03, 0x0E] = .error .truncated ∧
    decode .command [0x02] = .error .truncated := by decide
theorem test_decode_timekeeping_writes :
    decode .regWrite [0b00000000, 0x58] = .ok (.regwSeconds 0x58, []) ∧
    decode .regWrite [0b00000001, 0x59] = .ok (.regwMinutes 0x59, []) ∧
    decode .regWrite [0b00000010, 0x23] = .ok (.regwHours 0x23, []) ∧
    decode .regWrite [0b00000011, 0x07] = .ok (.regwDayOfWeek 0x07, []) ∧
    decode .regWrite [0b00000100, 0x31] = .ok (.regwDayOfMonth 0x31, []) ∧
    decode .regWrite [0b00000101, 0x12] = .ok (.regwMonth 0x12, []) ∧
    decode .regWrite [0b00000110, 0x23] = .ok (.regwYear 0x23, []) := by decide
theorem test_decode_alarm_writes :
    decode .regWrite [0b00000111, 0x11] = .ok (.regwAlarm1_0 0x11, []) ∧
    decode .regWrite [0b00001000, 0x22] = .ok (.regwAlarm1_1 0x22, []) ∧
    decode .regWrite [0b00001001, 0x33] = .ok (.regwAlarm1_2 0x33, []) ∧
    decode .regWrite [0b00001010, 0x44] = .ok (.regwAlarm1_3 0x44, []) ∧
    decode .regWrite [0b00001011, 0x55] = .ok (.regwAlarm2_0 0x55, []) ∧
    decode .regWrite [0b00001100, 0x66] = .ok (.regwAlarm2_1 0x66, []) ∧
    decode .regWrite [0b00001101, 0x77] = .ok (.regwAlarm2_2 0x77, []) := by decide
theorem test_decode_other_writes :
    decode .regWrite [0b00001110, 0x9C] = .ok (.regwControl 0x9C, []) ∧
    decode .regWrite [0b00001111, 0x00] = .ok (.regwStatus 0x00, []) ∧
    decode .regWrite [0b00010000, 0x7F] = .ok (.regwAgingOffset 0x7F, []) ∧
    decode .regWrite [0b00010001, 0x80] = .ok (.regwTempMsb 0x80, []) ∧
    decode .regWrite [0b00010010, 0x12] = .ok (.regwUndef12 0x12, []) ∧
    decode .regWrite [0b00010011, 0x13] = .ok (.regwTempConv 0x13, []) ∧
    decode .regWrite [0b00010100, 0x01] = .ok (.regwUndefHi 0x14 0x01, []) ∧
    decode .regWrite [0b11111111, 0x01] = .ok (.regwUndefHi 0xFF 0x01, []) := by decide
theorem test_decode_timekeeping_reads :
    decode .regRead [0b00000000] = .ok (.regrSeconds, []) ∧ decode .regRead [0b00000001] = .ok (.regrMinutes, []) ∧
    decode .regRead [0b00000010] = .ok (.regrHours, []) ∧ decode .regRead [0b00000011] = .ok (.regrDayOfWeek, []) ∧
    decode .regRead [0b00000100] = .ok (.regrDayOfMonth, []) ∧ decode .regRead [0b00000101] = .ok (.regrMonth, []) ∧
    decode .regRead [0b00000110] = .ok (.regrYear, []) := by decide
theorem test_decode_alarm_reads :
    decode .regRead [0b00000111] = .ok (.regrAlarm1_0, []) ∧ decode .regRead [0b00001000] = .ok (.regrAlarm1_1, []) ∧
    decode .regRead [0b00001001] = .ok (.regrAlarm1_2, []) ∧ decode .regRead [0b00001010] = .ok (.regrAlarm1_3, []) ∧
    decode .regRead [0b00001011] = .ok (.regrAlarm2_0, []) ∧ decode .regRead [0b00001100] = .ok (.regrAlarm2_1, []) ∧
    decode .regRead [0b00001101] = .ok (.regrAlarm2_2, []) := by decide
theorem test_decode_other_reads :
    decode .regRead [0b00001110] = .ok (.regrControl, []) ∧ decode .regRead [0b00001111] = .ok (.regrStatus, []) ∧
    decode .regRead [0b00010000] = .ok (.regrAgingOffset, []) ∧ decode .regRead [0b00010001] = .ok (.regrTempMsb, []) ∧
    decode .regRead [0b00010010] = .ok (.regrUndef12, []) ∧ decode .regRead [0b00010011] = .ok (.regrTempConv, []) ∧
    decode .regRead [0b00010100] = .ok (.regrUndefHi 0x14, []) ∧ decode .regRead [0b10000000] = .ok (.regrUndefHi 0x80, []) := by
  decide

/-- No two register rows fit one address (the five mask pairs of R56 included). -/
theorem test_register_rows_do_not_overlap :
    regRows.Pairwise fun p q => p.2.1 &&& q.2.2 ≠ q.2.1 &&& p.2.2 := by decide

/-- Every REGW row of the table, and every REGR row from 0x06 up, is read from its number as the table gives it. -/
theorem test_table_words :
    (regRows.all fun r => decodeTableWord 16 (r.2.1.toNat * 256 + 0x5A) == some (r.1.writeInstr r.2.1 0x5A)) = true ∧
    (regRows.all fun r => r.2.1.toNat < 6 || decodeTableWord 8 r.2.1.toNat == some (r.1.readInstr r.2.1)) = true ∧
    (List.range 6).map (decodeTableWord 8) =
      [some .nop, some (.write []), some (.read 0), some .endTransaction, some .tick, some .reset] := by decide

/-- The same words run as the first operation after reset. -/
theorem test_fetch_words :
    (regRows.all fun r => (afterStep (State.reset.withFetchWord 16 (r.2.1.toNat * 256 + 0x01)) fun t => t.dev.load r.2.1)
      == some 0x01) = true ∧
    afterStep (State.reset.withFetchWord 8 0x0F) (·.out) = some [0x88] ∧
    afterStep (State.reset.withFetchWord 8 0x01) (·.diag) = some .warnEmptyWrite ∧
    afterStep (State.reset.withFetchWord 8 0x02) (·.diag) = some .errReadUnaddressed ∧
    afterStep (State.reset.withFetchWord 8 0x04) (·.dev.cal.second) = some 1 := by decide

/-! ### The codec (V1) -/

theorem test_decode_vectors :
    [0x00, 0x09, 0x10, 0x23, 0x59, 0x99, 0x0A, 0x1F, 0x3F, 0x7F, 0x9A, 0xA0, 0xC3, 0xF9, 0xFF].map bcdDecode =
      [0, 9, 10, 23, 59, 99, 10, 25, 45, 85, 100, 100, 123, 159, 165] := by decide
theorem test_enc_vectors :
    [0, 9, 10, 19, 20, 23, 45, 59, 85, 99, 100, 123, 159, 160, 165, 223, 255, 65436, 65459].map enc =
      [0x00, 0x09, 0x10, 0x19, 0x20, 0x23, 0x45, 0x59, 0x85, 0x99, 0xA0, 0xC3, 0xF9, 0x100, 0x105, 0x163, 0x195, 0x198F6,
        0x19919] := by decide

/-! ### Register writes and reads (V2, V3, V4) -/

theorem test_seconds_write : after (.regwSeconds 0xD9) State.reset (fun t => (t.dev.cal.second, t.dev.load 0x00)) =
    some (59, 0xD9) := by decide
theorem test_seconds_reads_back :
    [0x00, 0x09, 0x10, 0x59, 0x60, 0x0A, 0x1A, 0x7F, 0x80, 0xD9, 0xFF].map (readBack 0x00) =
      [0x00, 0x09, 0x10, 0x59, 0x60, 0x10, 0x20, 0x05, 0x80, 0xD9, 0x85].map some := by decide
theorem test_minutes_write : after (.regwMinutes 0x7F) State.reset (·.dev.cal.minute) = some 85 := by decide
theorem test_minutes_reads_back :
    [0x59, 0x7F, 0xB0, 0xFF].map (readBack 0x01) = [0x59, 0x05, 0xB0, 0x85].map some := by decide
theorem test_hours_write : after (.regwHours 0x52) State.reset
    (fun t => (t.dev.cal.hour, t.dev.flag.mode12, t.dev.flag.pm20)) = some (12, true, false) := by decide
theorem test_hours_reads_back :
    [0x09, 0x12, 0x19, 0x20, 0x23, 0x24, 0x1F, 0x2A, 0x3F, 0x40, 0x63, 0xA3, 0xFF].map (readBack 0x02) =
      [0x09, 0x12, 0x19, 0x20, 0x23, 0x24, 0x05, 0x30, 0x25, 0x40, 0x63, 0xA3, 0xE5].map some := by decide
theorem test_weekday_write : after (.regwDayOfWeek 0xA5) State.reset (·.dev.cal.dayOfWeek) = some 5 := by decide
theorem test_weekday_reads_back :
    [0x00, 0x07, 0x08, 0xA5, 0xFF].map (readBack 0x03) = [0x00, 0x07, 0x08, 0xA5, 0xFF].map some := by decide
theorem test_day_write : after (.regwDayOfMonth 0xFF) State.reset (·.dev.cal.dayOfMonth) = some 45 := by decide
theorem test_day_reads_back :
    [0x31, 0x3F, 0x40, 0x71, 0xFF].map (readBack 0x04) = [0x31, 0x05, 0x40, 0x71, 0xC5].map some := by decide
theorem test_month_write : after (.regwMonth 0x92) State.reset
    (fun t => (t.dev.cal.month, t.dev.flag.century, t.dev.cal.year)) = some (12, true, 2000) := by decide
theorem test_month_reads_back :
    [0x12, 0x13, 0x1F, 0x7F, 0x80, 0x92, 0xE9].map (readBack 0x05) = [0x12, 0x13, 0x05, 0x65, 0x80, 0x92, 0xE9].map some := by
  decide
theorem test_year_write_double_offset :
    after (.write [0x05, 0x81, 0x23]) State.reset (fun t => (t.dev.cal.year, regRead 0x06 t.dev)) = some (2223, 0xC3) := by
  decide
theorem test_year_reads_back :
    [0x00, 0x23, 0x99, 0x9A, 0xA0, 0xFF].map (readBack 0x06) = [0x00, 0x23, 0x99, 0xA0, 0xA0, 0x05].map some := by decide
/-- V3.1, V3.3, V3.5, V3.6: what YEAR reads under a set century flag. -/
theorem test_year_under_century :
    [[0x05, 0x81], [0x05, 0x81, 0x00], [0x05, 0x81, 0x99], [0x05, 0x92, 0xFF]].map
      (fun bs => after (.write bs) State.reset fun t => regRead 0x06 t.dev) = [0xF6, 0xA0, 0x39, 0xA5].map some := by decide
theorem test_control_write : after (.regwControl 0x9C) State.reset
    (fun t => (t.dev.flag.oscEn, regrControl t.dev)) = some (false, 0x9C) := by decide
theorem test_control_reads_back :
    [0x00, 0x7F, 0x80, 0x9C, 0xFF].map (readBack 0x0E) = [0x00, 0x7F, 0x80, 0x9C, 0xFF].map some := by decide
theorem test_status_write : [0x00, 0x77, 0xFF].map (readBack 0x0F) = [0x00, 0x77, 0xFF].map some := by decide
/-- V4, last row: thirteen data bytes from 0x07. -/
theorem test_inert_writes :
    after (.write [0x07, 0x11, 0x22, 0x33, 0x44, 0x55, 0x66, 0x77, 0xE3, 0x0F, 0x7F, 0x80, 0x12, 0x13]) State.reset
      (fun t => ((List.range 14).map fun k => regRead (BitVec.ofNat 8 (7 + k)) t.dev, t.dev.ptr, t.dev.flag.oscEn)) =
    some ([0x11, 0x22, 0x33, 0x44, 0x55, 0x66, 0x77, 0xE3, 0x0F, 0x7F, 0x80, 0x12, 0x13, 0x00], some 0x14, false) := by decide
/-- R37, last paragraph: what every register reads after reset. -/
theorem test_reset_reads : ∀ a : Byte, regRead a State.reset.dev =
    if a = 0x03 ∨ a = 0x04 ∨ a = 0x05 then 0x01 else if a = 0x0E then 0x1C else if a = 0x0F then 0x88 else 0x00 := by decide
theorem test_register_reads_answer :
    after .regrSeconds (withCal (clock 0 0 58 1 1 1 2000) Flags.reset) (·.out) = some [0x58] ∧
    after .regrMinutes (withCal (clock 0 7 0 1 1 1 2000) Flags.reset) (·.out) = some [0x07] ∧
    after .regrHours (withCal (clock 23 0 0 1 1 1 2000) { Flags.reset with pm20 := true }) (·.out) = some [0x23] ∧
    after .regrDayOfWeek (withCal (clock 0 0 0 4 1 1 2000) Flags.reset) (·.out) = some [0x04] ∧
    after .regrDayOfMonth (withCal (clock 0 0 0 1 29 1 2000) Flags.reset) (·.out) = some [0x29] ∧
    after .regrMonth (withCal (clock 0 0 0 1 1 12 2000) { Flags.reset with century := true }) (·.out) = some [0x92] ∧
    after .regrYear (withCal (clock 0 0 0 1 1 1 2024) Flags.reset) (·.out) = some [0x24] ∧
    after .regrControl State.reset (·.out) = some [0x1C] ∧ after .regrStatus State.reset (·.out) = some [0x88] := by decide
/-- R92: 2023 under a set century flag, 2100 without. -/
theorem test_year_read_outside_the_window :
    after .regrYear (withCal (clock 0 0 0 1 1 1 2023) { Flags.reset with century := true }) (·.out) = some [0x19] ∧
    after .regrYear (withCal (clock 0 0 0 1 1 1 2100) Flags.reset) (·.out) = some [0xA0] := by decide

/-! ### Bus transactions (V5) -/

theorem test_write_empty : after (.write []) (withPtr (some 0x03)) (fun t => (t.dev.ptr, t.diag)) =
    some (some 0x03, .warnEmptyWrite) := by decide
theorem test_write_wraps : after (.write [0xFE, 0xAA, 0xBB, 0x30]) State.reset
    (fun t => (t.dev.load 0xFE, t.dev.load 0xFF, t.dev.cal.second, t.dev.ptr)) = some (0xAA, 0xBB, 30, some 0x01) := by decide
theorem test_write_sets_the_time : after (.write [0x00, 0x58, 0x59, 0x23, 0x07, 0x31, 0x12, 0x23]) State.reset
    (fun t => (t.dev.cal, t.dev.flag.pm20, t.dev.ptr)) = some (clock 23 59 58 7 31 12 2023, true, some 0x07) := by decide
theorem test_read_without_pointer : after (.read 1) State.reset (fun t => (t.out, t.diag)) =
    some ([], .errReadUnaddressed) := by decide
theorem test_read_burst_ignores_count : after (.read 0) (withPtr (some 0x00)) (·.out) =
    some [0x00, 0x00, 0x00, 0x01, 0x01, 0x01, 0x00] := by decide
theorem test_read_one_byte_keeps_pointer : after (.read 7) (withPtr (some 0x0E)) (fun t => (t.out, t.dev.ptr)) =
    some ([0x1C], some 0x0E) := by decide
theorem test_end_transaction : after .endTransaction (withPtr (some 0x07)) (·.dev.ptr) = some none := by decide

/-! ### System operations (V6, V7) -/

theorem test_reset_rearms : after .reset (withCal (clock 23 59 59 7 31 12 2299) { Flags.reset with oscEn := false })
    (·.dev) = some State.reset.dev := by decide
theorem test_nop : after .nop (withPtr (some 0x02)) (·.dev) = some (withPtr (some 0x02)).dev := by decide
/-- V6.1, V6.3, V6.4, V6.5, V6.6: the carries inside a day. -/
theorem test_tick_within_a_day :
    ticked (clock 0 0 0 1 1 1 2000) = some (clock 0 0 1 1 1 1 2000, false) ∧
    ticked (clock 0 0 59 1 1 1 2000) = some (clock 0 1 0 1 1 1 2000, false) ∧
    ticked (clock 0 59 59 1 1 1 2000) = some (clock 1 0 0 1 1 1 2000, false) ∧
    ticked (clock 19 59 59 1 1 1 2000) = some (clock 20 0 0 1 1 1 2000, true) ∧
    ticked (clock 22 59 59 2 1 1 2000) = some (clock 23 0 0 2 1 1 2000, true) := by decide
/-- V6.8 to V6.20: month lengths, leap years, year and weekday carry. -/
theorem test_tick_at_midnight :
    ticked (clock 23 59 59 1 1 1 2000) = some (clock 0 0 0 2 2 1 2000, false) ∧
    ticked (clock 23 59 59 3 28 2 2023) = some (clock 0 0 0 4 1 3 2023, false) ∧
    ticked (clock 23 59 59 3 28 2 2024) = some (clock 0 0 0 4 29 2 2024, false) ∧
    ticked (clock 23 59 59 3 28 2 2100) = some (clock 0 0 0 4 1 3 2100, false) ∧
    ticked (clock 23 59 59 5 30 11 2023) = some (clock 0 0 0 6 1 12 2023, false) ∧
    ticked (clock 23 59 59 5 30 12 2023) = some (clock 0 0 0 6 31 12 2023, false) ∧
    ticked (clock 23 59 59 7 31 12 2023) = some (clock 0 0 0 1 1 1 2024, false) ∧
    ticked (clock 23 59 59 7 31 12 65535) = some (clock 0 0 0 1 1 1 0, false) := by decide
/-- V6.24 to V6.29: fields out of range. -/
theorem test_tick_out_of_range :
    ticked (clock 0 0 85 1 1 1 2000) = some (clock 0 1 0 1 1 1 2000, false) ∧
    ticked (clock 0 85 60 1 1 1 2000) = some (clock 1 0 0 1 1 1 2000, false) ∧
    ticked (clock 45 59 59 0 0 0 2000) = some (clock 0 0 0 1 1 0 2000, false) ∧
    ticked (clock 23 59 59 7 45 25 2000) = some (clock 0 0 0 1 1 1 2001, false) ∧
    ticked (clock 25 0 0 1 1 1 2000) = some (clock 25 0 1 1 1 1 2000, true) := by decide
theorem test_tick_stopped : after .tick (withCal (clock 23 59 59 7 31 12 2023) { Flags.reset with oscEn := false }) (·.dev) =
    some (withCal (clock 23 59 59 7 31 12 2023) { Flags.reset with oscEn := false }).dev := by decide

/-! ### Diagnostics and parameters -/

theorem test_diagnostic_codes : [Diag.none, .warnEmptyWrite, .errReadUnaddressed].map (fun c => (c.code, c.severity)) =
    [(0, .none), (1, .warning), (2, .error)] := by decide
theorem test_tick_source_fires_once_a_second :
    Config.tickBaseHz / (Config.prescaleA * Config.prescaleB) = 1 := by decide

/-! ### Witnesses: what meets the hypotheses of each statement -/

theorem witness_EncodeThenDecodeRecoversInstr :
    (Instr.write (List.replicate 255 0xFF)).wellFormed = true ∧ (Instr.regrUndefHi 0x14).wellFormed = true := by
  rw [test_wf_write_length, List.length_replicate]; decide
theorem witness_DecodedBytesAreTheEncoding : decode .regWrite [0x05, 0x81, 0x00] = .ok (.regwMonth 0x81, [0x00]) := by decide
theorem witness_ReservedAndTruncatedFramesAreRefused :
    refusedBy (withStream .command [0x06, 0x04]) = some (.reservedOpcode 0x06) ∧
    refusedBy (withStream .command [0x01]) = some .truncatedFrame ∧
    refusedBy (withStream .command [0x01, 0x03, 0x0E]) = some .truncatedFrame ∧
    refusedBy (withStream .command [0x02]) = some .truncatedFrame ∧
    refusedBy State.reset = some .noOperation := by decide
theorem witness_StepRunsDecodedInstruction :
    decode (withStream .command [0x04, 0x03]).port (withStream .command [0x04, 0x03]).stream = .ok (.tick, [0x03]) := by decide
theorem witness_FetchedTableWordIsTheNextOperation :
    decodeTableWord 16 0xFFFF = some (.regwUndefHi 0xFF 0xFF) ∧ decodeTableWord 8 0x00 = some .nop ∧
    decodeTableWord 8 0x06 = some .regrYear := by decide
theorem witness_StepAnswersExactlyTheSpelledOperations :
    (Instr.read 7).wellFormed = true ∧ (Instr.read 7).space = (withStream .command [0x02, 0x07, 0x03]).port ∧
    (withStream .command [0x02, 0x07, 0x03]).stream = encode (.read 7) ++ [0x03] := by decide
theorem witness_EncodeDecodeRoundTrip : (99 : Nat) ≤ 99 := by decide
theorem witness_DecodeEncodeRoundTrip : (0x99 : Byte).toNat % 16 ≤ 9 := by decide
theorem witness_RegWriteAndRegReadDispatch :
    0x07 ≤ (0x07 : Byte).toNat ∧ (0x07 : Byte) ≠ 0x0E ∧ (0x07 : Byte) ≠ 0x0F ∧
    0x07 ≤ (0xFF : Byte).toNat ∧ (0xFF : Byte) ≠ 0x0E ∧ (0xFF : Byte) ≠ 0x0F := by decide
theorem witness_BusTransactionsRunTheMicroOperations :
    (0xFF : Byte) ≠ 0x00 ∧ (withPtr (some 0xFF)).dev.ptr = some 0xFF := by decide
theorem witness_WritesDoNotLeakIntoOtherRegisters :
    (0x05 : Byte) ≠ 0x06 ∧ ¬((0x06 : Byte) = 0x05 ∧ (0x05 : Byte) = 0x06) := by decide
theorem witness_RegistersReadBackWhatWasWritten :
    ((0x06 : Byte).toNat ≤ 0x06 → (0x06 : Byte) ≠ 0x03 → (0x99 : Byte).toNat % 16 ≤ 9) ∧
    ((0x06 : Byte) = 0x06 → State.reset.dev.flag.century = false) := by decide
theorem witness_YearReadsBackOffByACentury :
    (withCal Calendar.reset { Flags.reset with century := true }).dev.flag.century = true := by decide
theorem witness_WriteStoresItsDataBytes : (List.replicate 256 (0xA5 : Byte)).length ≤ 256 :=
  Nat.le_of_eq List.length_replicate
theorem witness_ReadAnswersByPointer :
    (withPtr none).dev.ptr = none ∧ (withPtr (some 0x00)).dev.ptr = some 0x00 ∧
    (0x01 : Byte) ≠ 0x00 ∧ (withPtr (some 0x01)).dev.ptr = some 0x01 := by decide
theorem witness_TimeSetInOneWriteReadsBackByBurst :
    (∀ v ∈ [(0x58 : Byte), 0x59, 0x23, 0x31, 0x12, 0x23], v.toNat % 16 ≤ 9) ∧ (0x12 : Byte).toNat < 128 := by decide
theorem witness_TickWithStoppedOscillatorIsTheIdentity :
    (withCal Calendar.reset { Flags.reset with oscEn := false }).dev.flag.oscEn = false := by decide
theorem witness_TickRecomputesPm20FromTheNewHour : State.reset.dev.flag.oscEn = true := by decide
theorem witness_TickCarriesFieldByField : State.reset.dev.flag.oscEn = true := by decide
theorem witness_TickIsOneSecondOfTheCivilCalendar :
    (withCal (clock 23 59 59 7 31 12 65534) Flags.reset).dev.flag.oscEn = true ∧
    (withCal (clock 23 59 59 7 31 12 65534) Flags.reset).dev.cal.InRange ∧
    (withCal (clock 23 59 59 7 31 12 65534) Flags.reset).dev.cal.year.toNat < 65535 := by decide
theorem witness_TickKeepsNaturalRanges : (withCal (clock 23 59 59 7 29 2 2024) Flags.reset).dev.cal.InRange := by decide
theorem witness_UnaddressedReadErrsAndChangesNothing :
    State.reset.dev.ptr = none ∧ after (.read 0) State.reset (·.diag) = some .errReadUnaddressed := by decide
theorem witness_EmptyWriteWarnsAndChangesNothing :
    after (.write []) State.reset (·.diag) = some .warnEmptyWrite := by decide
theorem witness_EveryOperationAnswers :
    after (.write []) State.reset (·.diag) = some .warnEmptyWrite ∧
    after (.read 3) State.reset (·.diag) = some .errReadUnaddressed := by decide
theorem witness_OnlyReadsReturnAndReadsChangeNothing :
    after .regrControl State.reset (·.out) = some [0x1C] ∧ Instr.regrControl.space = .regRead ∧
    after (.read 1) (withPtr (some 0x0F)) (·.out) = some [0x88] := by decide
theorem witness_OnlyWritesChangeAStoredByte :
    after (.write [0xFF, 0x01]) State.reset (·.dev.load 0xFF) = some 0x01 ∧ State.reset.dev.load 0xFF = 0x00 := by decide
theorem witness_OnlyTimeOperationsChangeTheCalendar :
    after .tick State.reset (fun t => decide (t.dev.cal ≠ State.reset.dev.cal)) = some true ∧
    after (.regwYear 0x23) State.reset (fun t => decide (t.dev.cal ≠ State.reset.dev.cal)) = some true := by decide
theorem witness_EachFlagHasOnlyItsWriters :
    after (.regwControl 0x80) State.reset (·.dev.flag.oscEn) = some false ∧
    after (.regwHours 0x60) State.reset (fun t => (t.dev.flag.mode12, t.dev.flag.pm20)) = some (true, true) ∧
    after (.regwMonth 0x81) State.reset (·.dev.flag.century) = some true := by decide
theorem witness_OnlyBusOperationsChangeThePointer :
    after (.write [0x05]) State.reset (·.dev.ptr) = some (some 0x05) ∧ State.reset.dev.ptr = none := by decide
theorem witness_StepKeepsTheDeviceSound :
    (withStream .command [0x01, 0x02, 0x02, 0x3F]).dev.Sound ∧
    afterStep (withStream .command [0x01, 0x02, 0x02, 0x3F]) (·.dev.cal.hour) = some 45 := by decide

end Sys2Proof.Tests
end

section
/-! ## The two directions of the encoding (spec/30_encoding.md)

What the decoder reads from the front of any bytes is exactly what `encode` writes there, in each of the three
spaces. -/

namespace Sys2Proof

/-- The bytes begin with the encoding of `i`, a well-formed instruction of the space `sp`, and `rest` follows it. -/
def Spells (sp : Space) (bytes : List Byte) (i : Instr) (rest : List Byte) : Prop :=
  i.wellFormed = true ∧ i.space = sp ∧ bytes = encode i ++ rest

/-- An address 0x14..0xFF is one of UNDEF_HI (R56). -/
theorem RegName.ofAddr_of_ge {a : Byte} (h : 0x14 ≤ a.toNat) : RegName.ofAddr a = .undefHi := by
  unfold RegName.ofAddr
  split
  case h_21 => rfl
  all_goals omega

/-- A register's write at its own address is spelled address byte, data byte (R60). -/
theorem RegName.spells_writeInstr {r : RegName} {a : Byte} (h : r.covers a = true) (v : Byte) (rest : List Byte) :
    Spells .regWrite (a :: v :: rest) (r.writeInstr a v) rest := by
  cases r <;> simp_all [Spells, covers, writeInstr, Instr.wellFormed, Instr.space, encode]

/-- A register's read at its own address is spelled by the address byte (R60). -/
theorem RegName.spells_readInstr {r : RegName} {a : Byte} (h : r.covers a = true) (rest : List Byte) :
    Spells .regRead (a :: rest) (r.readInstr a) rest := by
  cases r <;> simp_all [Spells, covers, readInstr, Instr.wellFormed, Instr.space, encode]

/-- A WRITE frame whose length byte is `n` carries the next `n` bytes (R58). -/
theorem spells_write {n : Byte} {tail : List Byte} (h : n.toNat ≤ tail.length) :
    Spells .command (0x01 :: n :: tail) (.write (tail.take n.toNat)) (tail.drop n.toNat) := by
  have hlen : (tail.take n.toNat).length = n.toNat := List.length_take_of_le h
  have hn : n.toNat ≤ 255 := by omega
  simp [Spells, Instr.wellFormed, Instr.space, encode, hlen, hn]

/-- A READ frame's count is its count byte (R58). -/
theorem spells_read (n : Byte) (rest : List Byte) : Spells .command (0x02 :: n :: rest) (.read n.toNat) rest := by
  have hn : n.toNat ≤ 255 := by omega
  simp [Spells, Instr.wellFormed, Instr.space, encode, hn]

/-- What the command decoder reads is spelled by the bytes it consumed (R58): the opcodes 0x01 and 0x02 carry an
operand, the reserved ones (R61) are the last case, and the other four are a whole frame by themselves. -/
theorem spells_of_decodeCommand {bytes : List Byte} {i : Instr} {rest : List Byte}
    (h : decodeCommand bytes = .ok (i, rest)) : Spells .command bytes i rest := by
  match bytes with
  | [] => cases h
  | op :: tail =>
    simp only [decodeCommand] at h
    split at h
    case h_2 hop =>
      obtain rfl : op = 0x01 := BitVec.eq_of_toNat_eq hop
      match tail with
      | [] => cases h
      | n :: payload =>
        by_cases hlt : payload.length < n.toNat
        · simp [hlt] at h
        · simp only [hlt, if_false] at h
          cases h
          exact spells_write (Nat.le_of_not_lt hlt)
    case h_3 hop =>
      obtain rfl : op = 0x02 := BitVec.eq_of_toNat_eq hop
      match tail with
      | [] => cases h
      | n :: _ => cases h; exact spells_read n _
    case h_7 => cases h
    all_goals
      rename_i hop
      cases h
      exact ⟨rfl, rfl, congrArg (· :: _) (BitVec.eq_of_toNat_eq hop)⟩

/-- What the decoder reads is spelled by the bytes it consumed, in every space (R58, R60). -/
theorem spells_of_decode {sp : Space} {bytes : List Byte} {i : Instr} {rest : List Byte}
    (h : decode sp bytes = .ok (i, rest)) : Spells sp bytes i rest := by
  match sp, bytes with
  | .command, _ => exact spells_of_decodeCommand h
  | .regWrite, a :: v :: _ => cases h; exact RegName.spells_writeInstr (RegName.ofAddr_covers a) v _
  | .regRead, a :: _ => cases h; exact RegName.spells_readInstr (RegName.ofAddr_covers a) _

/-- A well-formed instruction is read back from its bytes, whatever follows them (R56, R58, R60). Only the operands that
the encoding bounds need an argument; in every other word the decoder finds the instruction by its first byte. -/
theorem decode_encode_append {i : Instr} (hwf : i.wellFormed = true) (rest : List Byte) :
    decode i.space (encode i ++ rest) = .ok (i, rest) := by
  cases i with
  | write bytes =>
    have hlen : bytes.length % 256 = bytes.length := by
      simp only [Instr.wellFormed, decide_eq_true_eq] at hwf
      omega
    simp [Instr.space, encode, decode, decodeCommand, hlen]
  | read count =>
    have hcount : count % 256 = count := by
      simp only [Instr.wellFormed, decide_eq_true_eq] at hwf
      omega
    simp [Instr.space, encode, decode, decodeCommand, hcount]
  | regwUndefHi a v =>
    have ha : RegName.ofAddr a = .undefHi := RegName.ofAddr_of_ge (of_decide_eq_true hwf)
    simp [Instr.space, encode, decode, decodeRegWrite, ha, RegName.writeInstr]
  | regrUndefHi a =>
    have ha : RegName.ofAddr a = .undefHi := RegName.ofAddr_of_ge (of_decide_eq_true hwf)
    simp [Instr.space, encode, decode, decodeRegRead, ha, RegName.readInstr]
  | _ => rfl

/-- Decoding and spelling are the same relation. -/
theorem decode_eq_ok_iff {sp : Space} {bytes : List Byte} {i : Instr} {rest : List Byte} :
    decode sp bytes = .ok (i, rest) ↔ Spells sp bytes i rest := by
  constructor
  · exact spells_of_decode
  · rintro ⟨hwf, rfl, rfl⟩
    exact decode_encode_append hwf rest

end Sys2Proof
end

section
/-! ## Every operation answers (R12)

All that one operation, and one step, can do. -/

namespace Sys2Proof.Machine

/-- READ without a pointer raises the error (R115). -/
theorem exec_read_of_ptr_none {s : State} (h : s.dev.ptr = none) (count : Nat) :
    exec (.read count) s = s.raiseDiag .errReadUnaddressed := by
  simp [exec, execRead, h]

/-- READ with a pointer leaves the device alone and returns the burst or one byte, whatever its count (R103). -/
theorem exec_read_of_ptr_some {s : State} {a : Byte} (h : s.dev.ptr = some a) (count : Nat) :
    exec (.read count) s =
      s.finish s.dev (if a = Config.burstBase then burst s.dev else [regRead a s.dev]) := by
  simp only [exec, execRead, h]
  split <;> rfl

/-- The operation is a READ while there is no pointer (R115). -/
abbrev UnaddressedRead (i : Instr) (s : State) : Prop := s.dev.ptr = none ∧ ∃ n, i = .read n

/-- All an operation can do: an empty WRITE warns, a READ without a pointer errs, and everything else completes
(R12, R113). -/
theorem exec_cases (i : Instr) (s : State) :
    (i = .write [] ∧ exec i s = s.raiseDiag .warnEmptyWrite) ∨
    (UnaddressedRead i s ∧ exec i s = s.raiseDiag .errReadUnaddressed) ∨
    (i ≠ .write [] ∧ ¬UnaddressedRead i s ∧ ∃ d out, exec i s = s.finish d out) := by
  cases i with
  | write bytes =>
    cases bytes with
    | nil => exact .inl ⟨rfl, rfl⟩
    | cons a data => exact .inr (.inr ⟨nofun, nofun, _, _, rfl⟩)
  | read count =>
    cases hp : s.dev.ptr with
    | none => exact .inr (.inl ⟨⟨hp, count, rfl⟩, exec_read_of_ptr_none hp count⟩)
    | some a => exact .inr (.inr ⟨nofun, by simp [hp], _, _, exec_read_of_ptr_some hp count⟩)
  | _ => exact .inr (.inr ⟨nofun, nofun, _, _, rfl⟩)

/-- Every operation on every state answers a next state (R12). -/
theorem exec_answers (i : Instr) (s : State) : ∃ t, exec i s = .next t := by
  obtain ⟨-, h⟩ | ⟨-, h⟩ | ⟨-, -, d, out, h⟩ := exec_cases i s <;> exact ⟨_, h⟩

/-- A step runs the instruction the decoder reads, with its bytes consumed (R11). -/
theorem step_of_decode {s : State} {i : Instr} {rest : List Byte} (h : decode s.port s.stream = .ok (i, rest)) :
    step s = exec i { s with stream := rest } := by
  simp [step, h]

/-- A step answers exactly when the decoder reads an instruction: no operation stops the machine (R12). -/
theorem step_answers_iff (s : State) :
    (∃ t, step s = .next t) ↔ ∃ i rest, decode s.port s.stream = .ok (i, rest) := by
  constructor
  · rintro ⟨t, ht⟩
    obtain ⟨i, rest, hd, -⟩ := step_eq_next ht
    exact ⟨i, rest, hd⟩
  · rintro ⟨i, rest, hd⟩
    obtain ⟨t, ht⟩ := exec_answers i { s with stream := rest }
    exact ⟨t, (step_of_decode hd).trans ht⟩

/-- Settles O6: the decoder's reading is what the step dispatches on. -/
theorem stepRunsDecodedInstruction : Obligations.StepRunsDecodedInstruction :=
  fun _ _ _ h => step_of_decode h

/-- Settles O7: a step answers exactly when the decoder reads an instruction, and the decoder reads exactly what the
bytes spell. There is no fault to stop with. -/
theorem stepAnswersExactlyTheSpelledOperations : Obligations.StepAnswersExactlyTheSpelledOperations := by
  intro s
  refine ⟨?_, nofun⟩
  rw [step_answers_iff]
  simp only [decode_eq_ok_iff, Spells]

/-- Settles O48, by the three things an operation can do. -/
theorem everyOperationAnswers : Obligations.EveryOperationAnswers := by
  intro i s
  obtain ⟨hi, h⟩ | ⟨hr, h⟩ | ⟨hi, hr, d, out, h⟩ := exec_cases i s
  · exact ⟨_, h, ⟨rfl, rfl⟩, by simp [hi], by simp [hi], fun _ => ⟨rfl, rfl⟩⟩
  · have hi : i ≠ .write [] := by
      obtain ⟨-, n, rfl⟩ := hr
      nofun
    exact ⟨_, h, ⟨rfl, rfl⟩, by simp [hi], by simp [hr], fun _ => ⟨rfl, rfl⟩⟩
  · exact ⟨_, h, ⟨rfl, rfl⟩, by simp [hi], by simp [hr], fun hd => absurd rfl hd⟩

end Sys2Proof.Machine
end

section
/-! ## What an operation can do to the device

One inversion lemma for every operation, from which the invariants of the state (spec/10_state.md) are derived. -/

namespace Sys2Proof.Machine

/-- The devices an instruction can leave from `d`: the same one, one with another pointer, the reset one, one a second
later, and the ones its register writes lead to. REGW.UNDEF_HI stands apart, because below 0x14 it stores a byte without
being the register write of that address (log 20). -/
inductive DeviceEffect (d : Device) : Instr → Device → Prop where
  /-- Nothing changes, whatever the instruction: so it is for NOP, READ, the register reads and an empty WRITE
  (R43, R107, R116). -/
  | unchanged (i : Instr) : DeviceEffect d i d
  /-- END_TRANSACTION (R104). -/
  | endTransaction : DeviceEffect d .endTransaction (d.setPtr none)
  /-- TICK (R108). -/
  | tick : DeviceEffect d .tick d.advanceOneSecond
  /-- RESET (R106). -/
  | reset : DeviceEffect d .reset Device.reset
  /-- WRITE with at least its address byte (R102). -/
  | write (a : Byte) (data : List Byte) : DeviceEffect d (.write (a :: data)) (writeRegs a data d)
  /-- One register write (R99). -/
  | register {i : Instr} (a v : Byte) (h : writesTo i a = true) : DeviceEffect d i (regWrite a v d)
  /-- REGW.UNDEF_HI (R97). -/
  | undefHi (a v : Byte) : DeviceEffect d (.regwUndefHi a v) (d.store a v)

/-- READ never changes the device (R103). -/
theorem exec_read_dev {count : Nat} {s t : State} (h : exec (.read count) s = .next t) : t.dev = s.dev := by
  cases hp : s.dev.ptr with
  | none =>
    rw [exec_read_of_ptr_none hp, State.raiseDiag_eq_next] at h
    rw [h]
  | some a =>
    rw [exec_read_of_ptr_some hp, State.finish_eq_next] at h
    rw [h]

/-- All an operation can do to the device (R12). -/
theorem exec_effect {i : Instr} {s t : State} (h : exec i s = .next t) : DeviceEffect s.dev i t.dev := by
  cases i with
  | write bytes =>
    cases bytes with
    | nil => cases h; exact .unchanged _
    | cons a data => cases h; exact .write a data
  | read count => rw [exec_read_dev h]; exact .unchanged _
  | endTransaction => cases h; exact .endTransaction
  | tick => cases h; exact .tick
  | reset => cases h; exact .reset
  | regwSeconds v => cases h; exact .register 0x00 v rfl
  | regwMinutes v => cases h; exact .register 0x01 v rfl
  | regwHours v => cases h; exact .register 0x02 v rfl
  | regwDayOfWeek v => cases h; exact .register 0x03 v rfl
  | regwDayOfMonth v => cases h; exact .register 0x04 v rfl
  | regwMonth v => cases h; exact .register 0x05 v rfl
  | regwYear v => cases h; exact .register 0x06 v rfl
  | regwAlarm1_0 v => cases h; exact .register 0x07 v rfl
  | regwAlarm1_1 v => cases h; exact .register 0x08 v rfl
  | regwAlarm1_2 v => cases h; exact .register 0x09 v rfl
  | regwAlarm1_3 v => cases h; exact .register 0x0A v rfl
  | regwAlarm2_0 v => cases h; exact .register 0x0B v rfl
  | regwAlarm2_1 v => cases h; exact .register 0x0C v rfl
  | regwAlarm2_2 v => cases h; exact .register 0x0D v rfl
  | regwControl v => cases h; exact .register 0x0E v rfl
  | regwStatus v => cases h; exact .register 0x0F v rfl
  | regwAgingOffset v => cases h; exact .register 0x10 v rfl
  | regwTempMsb v => cases h; exact .register 0x11 v rfl
  | regwUndef12 v => cases h; exact .register 0x12 v rfl
  | regwTempConv v => cases h; exact .register 0x13 v rfl
  | regwUndefHi a v => cases h; exact .undefHi a v
  | _ => cases h; exact .unchanged _

end Sys2Proof.Machine
end

section
/-! ## The bounds and the natural ranges of the calendar (R36) -/

namespace Sys2Proof.Machine

/-- A two-digit field of seven bits is at most 7 and 15. -/
theorem bcd7_le (v : Byte) : (bcd7 v).toNat ≤ 85 := by rw [bcd7_toNat]; omega

/-- A two-digit field of six bits is at most 3 and 15. -/
theorem bcd6_le (v : Byte) : (bcd6 v).toNat ≤ 45 := by rw [bcd6_toNat]; omega

/-- A two-digit field of five bits is at most 1 and 15. -/
theorem bcd5_le (v : Byte) : (bcd5 v).toNat ≤ 25 := by rw [bcd5_toNat]; omega

/-- A counter that steps from below a threshold does not pass it. -/
theorem toNat_succ_le {b : Byte} {n : Nat} (h : b.toNat < n) : (b + 1).toNat ≤ n := by
  rw [BitVec.toNat_add]
  exact (Nat.mod_le _ _).trans h

/-- A counter that steps from below its greatest value does not wrap to 0. -/
theorem one_le_toNat_succ {b : Byte} (h : b.toNat < 255) : 1 ≤ (b + 1).toNat := by
  rw [BitVec.toNat_add]
  change 1 ≤ (b.toNat + 1) % 256
  omega

/-- A register write keeps the calendar within its bounds: the operand's field is no wider than the bound (R57). -/
theorem bounded_regWrite (a v : Byte) {d : Device} (h : d.cal.Bounded) : (regWrite a v d).cal.Bounded := by
  obtain ⟨hs, hm, hh, hd, hmo⟩ := h
  rw [regWrite_cal]
  split_ifs
  · exact ⟨bcd7_le v, hm, hh, hd, hmo⟩
  · exact ⟨hs, bcd7_le v, hh, hd, hmo⟩
  · exact ⟨hs, hm, bcd6_le v, hd, hmo⟩
  · exact ⟨hs, hm, hh, hd, hmo⟩
  · exact ⟨hs, hm, hh, bcd6_le v, hmo⟩
  · exact ⟨hs, hm, hh, hd, bcd5_le v⟩
  · exact ⟨hs, hm, hh, hd, hmo⟩
  · exact ⟨hs, hm, hh, hd, hmo⟩

/-- The advance keeps the calendar within its bounds: a field steps only from below its threshold, which is within the
bound, and is otherwise kept or set to its minimum (R71). -/
theorem Calendar.bounded_advance {c : Calendar} (h : c.Bounded) : c.advance.Bounded := by
  obtain ⟨hs, hm, hh, hd, hmo⟩ := h
  obtain ⟨lt, e⟩ | ⟨-, lt, e⟩ | ⟨-, -, lt, e⟩ | ⟨-, -, -, lt, e⟩ | ⟨-, -, -, -, lt, e⟩ | ⟨-, -, -, -, -, e⟩ :=
    c.advance_cases <;> rw [e]
  · exact ⟨(toNat_succ_le lt).trans (by decide), hm, hh, hd, hmo⟩
  · exact ⟨by simp, (toNat_succ_le lt).trans (by decide), hh, hd, hmo⟩
  · exact ⟨by simp, by simp, (toNat_succ_le lt).trans (by decide), hd, hmo⟩
  · have hlen := (daysInMonth_bounds c.month.toNat c.year.toNat).2
    exact ⟨by simp, by simp, by simp, (toNat_succ_le lt).trans (hlen.trans (by decide)), hmo⟩
  · exact ⟨by simp, by simp, by simp, by simp, (toNat_succ_le lt).trans (by decide)⟩
  · exact ⟨by simp, by simp, by simp, by simp, by simp⟩

/-- The weekday step gives no weekday 0 (R74). -/
theorem one_le_stepWeekday (w : Weekday) : 1 ≤ (stepWeekday w).toNat := by
  rw [stepWeekday_toNat]
  split <;> omega

/-- The first day of a month is one of its days. -/
theorem one_le_daysInMonth (m y : Nat) : 1 ≤ daysInMonth m y :=
  Nat.le_trans (by decide) (daysInMonth_bounds m y).1

/-- The advance keeps a calendar in its natural ranges: a field that steps stays at or below its threshold, a field that
carries starts again at its minimum (R71, R72). -/
theorem Calendar.inRange_advance {c : Calendar} (h : c.InRange) : c.advance.InRange := by
  obtain ⟨hs, hm, hh, hw, hmo, hmo', hd, hd'⟩ := h
  obtain ⟨lt, e⟩ | ⟨-, lt, e⟩ | ⟨-, -, lt, e⟩ | ⟨-, -, -, lt, e⟩ | ⟨-, -, -, -, lt, e⟩ | ⟨-, -, -, -, -, e⟩ :=
    c.advance_cases <;> rw [e]
  · exact ⟨toNat_succ_le lt, hm, hh, hw, hmo, hmo', hd, hd'⟩
  · exact ⟨by simp, toNat_succ_le lt, hh, hw, hmo, hmo', hd, hd'⟩
  · exact ⟨by simp, by simp, toNat_succ_le lt, hw, hmo, hmo', hd, hd'⟩
  · have hlen := (daysInMonth_bounds c.month.toNat c.year.toNat).2
    exact ⟨by simp, by simp, by simp, one_le_stepWeekday _, hmo, hmo', one_le_toNat_succ (by omega), toNat_succ_le lt⟩
  · exact ⟨by simp, by simp, by simp, one_le_stepWeekday _, one_le_toNat_succ (by omega), toNat_succ_le lt, by simp,
      one_le_daysInMonth _ _⟩
  · exact ⟨by simp, by simp, by simp, one_le_stepWeekday _, by simp, by simp, by simp, one_le_daysInMonth _ _⟩

/-- What the advance of a calendar keeps, a TICK keeps, whether or not the oscillator runs (R71, R108). -/
theorem advanceOneSecond_cal_keeps {P : Calendar → Prop} (hP : ∀ c, P c → P c.advance) {d : Device} (h : P d.cal) :
    P d.advanceOneSecond.cal := by
  cases hosc : d.flag.oscEn with
  | false => rwa [advanceOneSecond_stopped hosc]
  | true => rw [advanceOneSecond_running hosc]; exact hP _ h

/-- Settles O45. -/
theorem tickKeepsNaturalRanges : Obligations.TickKeepsNaturalRanges :=
  fun _ h => ⟨_, rfl, advanceOneSecond_cal_keeps (P := Calendar.InRange) (fun _ => Calendar.inRange_advance) h⟩

end Sys2Proof.Machine
end

section
/-! ## The sound device (R36, and the canonical form of the stored bytes) -/

namespace Sys2Proof.Machine

/-- Settles O55: no byte is listed, and every counter is 0 or 1 but the year, which R36 does not bound. -/
theorem resetDeviceIsSound : Obligations.ResetDeviceIsSound :=
  ⟨Memory.wf_nil, by decide⟩

/-- A register write keeps a sound device sound. -/
theorem Device.sound_regWrite (a v : Byte) {d : Device} (h : d.Sound) : (regWrite a v d).Sound :=
  ⟨regWrite_wf a v h.1, bounded_regWrite a v h.2⟩

/-- What an operation can do to a device keeps it sound. -/
theorem DeviceEffect.sound {d e : Device} {i : Instr} (he : DeviceEffect d i e) (h : d.Sound) : e.Sound := by
  cases he with
  | unchanged => exact h
  | endTransaction => exact h
  | tick =>
    obtain ⟨hwf, hcal⟩ := h
    exact ⟨by rwa [advanceOneSecond_x],
      advanceOneSecond_cal_keeps (P := Calendar.Bounded) (fun _ => Calendar.bounded_advance) hcal⟩
  | reset => exact resetDeviceIsSound
  | write a data => exact writeRegs_keeps a data d (fun b v _ _ => Device.sound_regWrite b v) (fun _ _ => id) h
  | register a v => exact Device.sound_regWrite a v h
  | undefHi a v => exact ⟨Device.wf_store a v h.1, h.2⟩

/-- Settles O54: the operation a step runs has one of the effects that keep a device sound. -/
theorem stepKeepsTheDeviceSound : Obligations.StepKeepsTheDeviceSound := by
  intro s t hs h
  obtain ⟨i, rest, -, hexec⟩ := step_eq_next h
  exact (exec_effect hexec).sound hs

end Sys2Proof.Machine
end

section
/-! ## Who changes the calendar (R21) -/

namespace Sys2Proof.Machine

/-- The registers above YEAR hold no calendar field (R14). -/
theorem regWrite_cal_of_gt {a : Byte} (h : 0x06 < a.toNat) (v : Byte) (d : Device) : (regWrite a v d).cal = d.cal := by
  have hne : ∀ n : Byte, n.toNat ≤ 0x06 → a ≠ n := by
    rintro n hn rfl
    omega
  simp [regWrite_cal, hne]

/-- The data bytes of a WRITE that reach none of the registers 0x00..0x06 leave the calendar alone (R54). -/
theorem writeRegs_cal {a : Byte} {data : List Byte} (h : ∀ b : Byte, (b - a).toNat < data.length → 0x06 < b.toNat)
    (d : Device) : (writeRegs a data d).cal = d.cal :=
  writeRegs_keeps (P := fun e => e.cal = d.cal) a data d
    (fun b v e hb he => (regWrite_cal_of_gt (h b hb) v e).trans he) (fun _ _ => id) rfl

/-- An effect that changes the calendar is that of RESET, of a TICK while the oscillator runs, or of a write that reaches
one of the registers 0x00..0x06. -/
theorem DeviceEffect.of_cal_ne {d e : Device} {i : Instr} (he : DeviceEffect d i e) (hne : e.cal ≠ d.cal) :
    i = .reset ∨ (i = .tick ∧ d.flag.oscEn = true) ∨ ∃ b : Byte, b.toNat ≤ 0x06 ∧ writesTo i b = true := by
  cases he with
  | unchanged => exact absurd rfl hne
  | endTransaction => exact absurd rfl hne
  | tick =>
    cases hosc : d.flag.oscEn with
    | true => exact .inr (.inl ⟨rfl, rfl⟩)
    | false => exact absurd (congrArg Device.cal (advanceOneSecond_stopped hosc)) hne
  | reset => exact .inl rfl
  | write a data =>
    refine .inr (.inr ?_)
    by_contra hnone
    refine hne (writeRegs_cal (fun b hb => ?_) d)
    by_contra hle
    exact hnone ⟨b, Nat.le_of_not_lt hle, decide_eq_true hb⟩
  | register a v hw =>
    refine .inr (.inr ⟨a, ?_, hw⟩)
    by_contra hgt
    exact hne (regWrite_cal_of_gt (Nat.lt_of_not_le hgt) v d)
  | undefHi => exact absurd rfl hne

/-- Settles O51, by the effects an operation can have. -/
theorem onlyTimeOperationsChangeTheCalendar : Obligations.OnlyTimeOperationsChangeTheCalendar :=
  fun _ _ _ h hne => (exec_effect h).of_cal_ne hne

end Sys2Proof.Machine
end

section
/-! ## Writes to one register: HOURS, and plain storage -/

namespace Sys2Proof.Machine

/-- A state whose stored bytes are those of one write differs from the old one in that byte alone (R17). -/
theorem storedOnly_of_x {s t : State} {a v : Byte} (h : t.dev.x = Memory.write a.toNat v s.dev.x) :
    StoredOnly s t a v := by
  have hload : ∀ b, t.dev.load b = (s.dev.store a v).load b := fun b => congrArg (Memory.read b.toNat) h
  exact ⟨(hload a).trans (Device.load_store_same _ _ _), fun b hb => (hload b).trans (Device.load_store_other hb _ _)⟩

/-- An instruction that stores one byte and completes has the effect of a write to an inert address (R97). -/
theorem storesByte_of_exec {i : Instr} {a v : Byte} (h : ∀ s, exec i s = s.finish (s.dev.store a v) []) :
    StoresByte i a v :=
  fun s => ⟨_, h s, storedOnly_of_x rfl, rfl, rfl, rfl, ⟨rfl, rfl⟩, ⟨rfl, rfl⟩⟩

/-- Settles O19: every one of these writes is one store. -/
theorem inertWrites : Obligations.InertWrites := by
  intro v
  refine ⟨⟨?_, ?_, ?_, ?_⟩, ⟨?_, ?_, ?_⟩, ⟨?_, ?_, ?_, ?_⟩, fun a => ?_⟩ <;> exact storesByte_of_exec fun _ => rfl

/-- The flags after a HOURS write, by the bits of the byte (R83). -/
theorem Flags.afterHours_eq (f : Flags) (v : Byte) :
    f.afterHours v = { f with mode12 := v.getLsbD 6, pm20 := v.getLsbD 5 } := by
  rw [Flags.afterHours, bitAt_eq, bitAt_eq]

/-- Settles O13. -/
theorem hoursWrite : Obligations.HoursWrite :=
  fun v s => ⟨_, rfl, storedOnly_of_x rfl, rfl, rfl, bcd6_toNat v, Flags.afterHours_eq s.dev.flag v, ⟨rfl, rfl⟩, ⟨rfl, rfl⟩⟩

end Sys2Proof.Machine
end

section
/-! ## A register reads back the byte written (spec/40_bcd_codec.md, law (e))

One lemma per register with behaviour; below 0x07 the written byte is put together again from the stored bits, the flags
and the counter. -/

namespace Sys2Proof.Machine

/-- A bit of a byte as a number. -/
theorem bitAt_toNat (v : Byte) (i : Nat) : (bitAt v i).toNat = v.toNat / 2 ^ i % 2 := by
  rw [bitAt_eq, BitVec.getLsbD, Nat.toNat_testBit]

/-- The packed form of a two-digit value is its two digits, when the lower one is decimal. -/
theorem packed_digits {u : Nat} (h : u ≤ 9) (t : Nat) : (10 * t + u) / 10 * 16 + (10 * t + u) % 10 = 16 * t + u := by
  omega

/-- A byte composed by arithmetic is the byte whose value the arithmetic gives. -/
theorem ofNat_eq_of_eq_toNat {n : Nat} {v : Byte} (h : n = v.toNat) : BitVec.ofNat 8 n = v := by
  rw [h, BitVec.ofNat_toNat, BitVec.setWidth_eq]

/-- SECONDS reads back (R79, R80). -/
theorem regrSeconds_regwSeconds {v : Byte} (h : v.toNat % 16 ≤ 9) (d : Device) : regrSeconds (regwSeconds v d) = v := by
  rw [regrSeconds_eq, regwSeconds]
  simp only [Device.setCal_load, Device.load_store_same, Device.setCal_cal, bcd7_toNat, packed_digits h]
  exact ofNat_eq_of_eq_toNat (by omega)

/-- MINUTES reads back (R81, R82). -/
theorem regrMinutes_regwMinutes {v : Byte} (h : v.toNat % 16 ≤ 9) (d : Device) : regrMinutes (regwMinutes v d) = v := by
  rw [regrMinutes_eq, regwMinutes]
  simp only [Device.setCal_load, Device.load_store_same, Device.setCal_cal, bcd7_toNat, packed_digits h]
  exact ofNat_eq_of_eq_toNat (by omega)

/-- HOURS reads back: bit 5 is read from pm20, where the counter's own bit 5 is cut off (R83, R84). -/
theorem regrHours_regwHours {v : Byte} (h : v.toNat % 16 ≤ 9) (d : Device) : regrHours (regwHours v d) = v := by
  rw [regrHours_eq, regwHours]
  simp only [Device.setCal_load, Device.setFlag_load, Device.load_store_same, Device.setCal_cal, Device.setCal_flag,
    Device.setFlag_flag, Flags.afterHours, bitAt_toNat, bcd6_toNat, packed_digits h]
  exact ofNat_eq_of_eq_toNat (by omega)

/-- DAYOFWEEK reads back whatever its low nibble is: it is raw (R85, R86). -/
theorem regrDayOfWeek_regwDayOfWeek (v : Byte) (d : Device) : regrDayOfWeek (regwDayOfWeek v d) = v := by
  rw [regrDayOfWeek_eq, regwDayOfWeek]
  simp only [Device.setCal_load, Device.load_store_same, Device.setCal_cal, rawWeekday_toNat]
  exact ofNat_eq_of_eq_toNat (by omega)

/-- DAYOFMONTH reads back (R87, R88). -/
theorem regrDayOfMonth_regwDayOfMonth {v : Byte} (h : v.toNat % 16 ≤ 9) (d : Device) :
    regrDayOfMonth (regwDayOfMonth v d) = v := by
  rw [regrDayOfMonth_eq, regwDayOfMonth]
  simp only [Device.setCal_load, Device.load_store_same, Device.setCal_cal, bcd6_toNat, packed_digits h]
  exact ofNat_eq_of_eq_toNat (by omega)

/-- MONTH reads back: bit 7 is read from the century flag (R89, R90). -/
theorem regrMonth_regwMonth {v : Byte} (h : v.toNat % 16 ≤ 9) (d : Device) : regrMonth (regwMonth v d) = v := by
  rw [regrMonth_eq, regwMonth]
  simp only [Device.setCal_load, Device.setFlag_load, Device.load_store_same, Device.setCal_cal, Device.setCal_flag,
    Device.setFlag_flag, Flags.afterMonth, bitAt_toNat, bcd5_toNat, packed_digits h]
  exact ofNat_eq_of_eq_toNat (by omega)

/-- Outside the century the offset a YEAR read encodes is the value a YEAR write decoded (R91, R92). -/
theorem yearOffset_yearOperand_false (v : Byte) :
    yearOffset false (yearOperand false v) = 10 * (v.toNat / 16) + v.toNat % 16 := by
  simp only [yearOffset_eq, yearOperand_toNat, Bool.false_eq_true, if_false]
  omega

/-- YEAR reads back while the century flag is clear (R91, R92). -/
theorem regrYear_regwYear {v : Byte} (h : v.toNat % 16 ≤ 9) {d : Device} (hc : d.flag.century = false) :
    regrYear (regwYear v d) = v := by
  rw [regrYear_eq, regwYear]
  simp only [Device.setCal_cal, Device.setCal_flag, Device.store_flag, hc, yearOffset_yearOperand_false, packed_digits h]
  exact ofNat_eq_of_eq_toNat (by omega)

/-- CONTROL reads back: bit 7 is read from osc_en, its complement (R93, R94). -/
theorem regrControl_regwControl (v : Byte) (d : Device) : regrControl (regwControl v d) = v := by
  rw [regrControl_eq, regwControl]
  simp only [Device.setFlag_load, Device.load_store_same, Device.setFlag_flag, Flags.afterControl, Bool.not_not,
    bitAt_toNat]
  exact ofNat_eq_of_eq_toNat (by omega)

/-- Settles O30, register by register; the ones with no lemma of their own are plain storage (R95 to R98). -/
theorem registersReadBackWhatWasWritten : Obligations.RegistersReadBackWhatWasWritten := by
  intro a v d hbcd hcentury
  have hcov := RegName.ofAddr_covers a
  cases hr : RegName.ofAddr a <;> simp only [hr, RegName.covers, beq_iff_eq] at hcov <;>
    simp only [regRead, regWrite, hr]
  case seconds => subst hcov; exact regrSeconds_regwSeconds (hbcd (by decide) (by decide)) d
  case minutes => subst hcov; exact regrMinutes_regwMinutes (hbcd (by decide) (by decide)) d
  case hours => subst hcov; exact regrHours_regwHours (hbcd (by decide) (by decide)) d
  case dayOfWeek => exact regrDayOfWeek_regwDayOfWeek v d
  case dayOfMonth => subst hcov; exact regrDayOfMonth_regwDayOfMonth (hbcd (by decide) (by decide)) d
  case month => subst hcov; exact regrMonth_regwMonth (hbcd (by decide) (by decide)) d
  case year => subst hcov; exact regrYear_regwYear (hbcd (by decide) (by decide)) (hcentury rfl)
  case control => exact regrControl_regwControl v d
  case status => exact Device.load_store_same d 0x0F v
  all_goals exact Device.load_store_same d a v

end Sys2Proof.Machine
end

section
/-! ## What a register write leaves unchanged (R44)

The counter and the flag that belong to one register are touched by the write to that register alone. -/

namespace Sys2Proof.Machine

/-- Only a write to SECONDS touches the second. -/
theorem regWrite_second {a : Byte} (h : a ≠ 0x00) (v : Byte) (d : Device) :
    (regWrite a v d).cal.second = d.cal.second := by
  rw [regWrite_cal, if_neg h]
  split_ifs <;> rfl

/-- Only a write to MINUTES touches the minute. -/
theorem regWrite_minute {a : Byte} (h : a ≠ 0x01) (v : Byte) (d : Device) :
    (regWrite a v d).cal.minute = d.cal.minute := by
  rw [regWrite_cal, if_neg h]
  split_ifs <;> rfl

/-- Only a write to HOURS touches the hour. -/
theorem regWrite_hour {a : Byte} (h : a ≠ 0x02) (v : Byte) (d : Device) :
    (regWrite a v d).cal.hour = d.cal.hour := by
  rw [regWrite_cal, if_neg h]
  split_ifs <;> rfl

/-- Only a write to DAYOFWEEK touches the weekday. -/
theorem regWrite_dayOfWeek {a : Byte} (h : a ≠ 0x03) (v : Byte) (d : Device) :
    (regWrite a v d).cal.dayOfWeek = d.cal.dayOfWeek := by
  rw [regWrite_cal, if_neg h]
  split_ifs <;> rfl

/-- Only a write to DAYOFMONTH touches the day of the month. -/
theorem regWrite_dayOfMonth {a : Byte} (h : a ≠ 0x04) (v : Byte) (d : Device) :
    (regWrite a v d).cal.dayOfMonth = d.cal.dayOfMonth := by
  rw [regWrite_cal, if_neg h]
  split_ifs <;> rfl

/-- Only a write to MONTH touches the month. -/
theorem regWrite_month {a : Byte} (h : a ≠ 0x05) (v : Byte) (d : Device) :
    (regWrite a v d).cal.month = d.cal.month := by
  rw [regWrite_cal, if_neg h]
  split_ifs <;> rfl

/-- Only a write to YEAR touches the year: a write to MONTH does not move it (R89). -/
theorem regWrite_year {a : Byte} (h : a ≠ 0x06) (v : Byte) (d : Device) :
    (regWrite a v d).cal.year = d.cal.year := by
  rw [regWrite_cal, if_neg h]
  split_ifs <;> rfl

/-- Only a write to HOURS touches mode12 (R23). -/
theorem regWrite_mode12 {a : Byte} (h : a ≠ 0x02) (v : Byte) (d : Device) :
    (regWrite a v d).flag.mode12 = d.flag.mode12 := by
  rw [regWrite_flag, if_neg h]
  split_ifs <;> rfl

/-- Among the register writes only the one to HOURS touches pm20 (R23). -/
theorem regWrite_pm20 {a : Byte} (h : a ≠ 0x02) (v : Byte) (d : Device) :
    (regWrite a v d).flag.pm20 = d.flag.pm20 := by
  rw [regWrite_flag, if_neg h]
  split_ifs <;> rfl

/-- Only a write to MONTH touches the century flag (R23). -/
theorem regWrite_century {a : Byte} (h : a ≠ 0x05) (v : Byte) (d : Device) :
    (regWrite a v d).flag.century = d.flag.century := by
  rw [regWrite_flag, if_neg h]
  split_ifs <;> rfl

/-- Only a write to CONTROL touches osc_en (R23). -/
theorem regWrite_oscEn {a : Byte} (h : a ≠ 0x0E) (v : Byte) (d : Device) :
    (regWrite a v d).flag.oscEn = d.flag.oscEn := by
  rw [regWrite_flag, if_neg h]
  split_ifs <;> rfl

/-- A register reads the same after a write to another one, MONTH and YEAR excepted: each read is composed of its own
stored byte, its own counter and its own flags, and YEAR of the century flag, which is MONTH's. -/
theorem regRead_regWrite_other {a b : Byte} (hne : b ≠ a) (hyear : ¬(a = 0x05 ∧ b = 0x06)) (v : Byte) (d : Device) :
    regRead b (regWrite a v d) = regRead b d := by
  have hload : (regWrite a v d).load b = d.load b := by rw [regWrite_load, if_neg hne]
  have hcov := RegName.ofAddr_covers b
  cases hr : RegName.ofAddr b <;> simp only [hr, RegName.covers, beq_iff_eq] at hcov <;> simp only [regRead, hr]
  case seconds => subst hcov; rw [regrSeconds, hload, regWrite_second hne.symm, regrSeconds]
  case minutes => subst hcov; rw [regrMinutes, hload, regWrite_minute hne.symm, regrMinutes]
  case hours =>
    subst hcov
    rw [regrHours, hload, regWrite_mode12 hne.symm, regWrite_pm20 hne.symm, regWrite_hour hne.symm, regrHours]
  case dayOfWeek => subst hcov; rw [regrDayOfWeek, hload, regWrite_dayOfWeek hne.symm, regrDayOfWeek]
  case dayOfMonth => subst hcov; rw [regrDayOfMonth, hload, regWrite_dayOfMonth hne.symm, regrDayOfMonth]
  case month => subst hcov; rw [regrMonth, hload, regWrite_century hne.symm, regWrite_month hne.symm, regrMonth]
  case year =>
    subst hcov
    have hmonth : a ≠ 0x05 := fun ha => hyear ⟨ha, rfl⟩
    rw [regrYear, regWrite_century hmonth, regWrite_year hne.symm, regrYear]
  case control => subst hcov; rw [regrControl, hload, regWrite_oscEn hne.symm, regrControl]
  case status => subst hcov; exact hload
  all_goals exact hload

/-- Settles O29. -/
theorem writesDoNotLeakIntoOtherRegisters : Obligations.WritesDoNotLeakIntoOtherRegisters :=
  fun _ _ v d hne hyear => regRead_regWrite_other hne hyear v d

end Sys2Proof.Machine
end

section
/-! ## The seven timekeeping registers in one WRITE, and the burst (R102, R103)

Each of the seven bytes reads back right after its own write, and the writes that follow do not reach it. -/

namespace Sys2Proof.Machine

/-- No register read depends on the pointer. -/
@[simp] theorem regRead_setPtr (b : Byte) (p : Option Byte) (d : Device) : regRead b (d.setPtr p) = regRead b d := by
  unfold regRead
  split <;> rfl

/-- The burst does not depend on the pointer. -/
@[simp] theorem burst_setPtr (p : Option Byte) (d : Device) : burst (d.setPtr p) = burst d := by
  simp only [burst, regRead_setPtr]

/-- A MONTH byte below 0x80 clears the century flag (R89). -/
theorem regWrite_month_century {v : Byte} (h : v.toNat < 128) (d : Device) :
    (regWrite 0x05 v d).flag.century = false := by
  change bitAt v 7 = false
  rw [← Bool.toNat_eq_zero, bitAt_toNat]
  omega

/-- After a WRITE of the seven timekeeping bytes the burst returns them: the writes to later registers are peeled off each
read, MONTH being none of those that follow YEAR, and the register's own write reads back. -/
theorem burst_writeRegs_time {ss mi hh dm mo yy : Byte} (hbcd : ∀ v ∈ [ss, mi, hh, dm, mo, yy], v.toNat % 16 ≤ 9)
    (hcentury : mo.toNat < 128) (dw : Byte) (d : Device) :
    burst (writeRegs 0x00 [ss, mi, hh, dw, dm, mo, yy] d) = [ss, mi, hh, dw, dm, mo, yy] := by
  simp only [List.forall_mem_cons] at hbcd
  obtain ⟨hss, hmi, hhh, hdm, hmo, hyy, -⟩ := hbcd
  simp (disch := decide) only [burst, writeRegs_cons, writeRegs_nil, regRead_setPtr, BitVec.reduceAdd,
    BitVec.ofNat_eq_ofNat, regRead_regWrite_other, List.cons.injEq, and_true]
  exact ⟨regrSeconds_regwSeconds hss _, regrMinutes_regwMinutes hmi _, regrHours_regwHours hhh _,
    regrDayOfWeek_regwDayOfWeek dw _, regrDayOfMonth_regwDayOfMonth hdm _, regrMonth_regwMonth hmo _,
    regrYear_regwYear hyy (regWrite_month_century hcentury _)⟩

/-- Settles O36: the WRITE of the pointer alone leaves the registers as the first WRITE set them. -/
theorem timeSetInOneWriteReadsBackByBurst : Obligations.TimeSetInOneWriteReadsBackByBurst := by
  intro s ss mi hh dw dm mo yy n hbcd hcentury
  refine ⟨_, _, _, rfl, rfl, exec_read_of_ptr_some rfl n, ?_, rfl⟩
  exact (burst_setPtr (some 0x00) _).trans (burst_writeRegs_time hbcd hcentury dw s.dev)

end Sys2Proof.Machine
end

section
/-! ## Reads return bytes and change nothing (R43) -/

namespace Sys2Proof.Machine

/-- A register read completes on the same device with one byte. -/
theorem exec_of_space_regRead {i : Instr} (hi : i.space = .regRead) (s : State) :
    ∃ b, exec i s = s.finish s.dev [b] := by
  cases i <;> cases hi <;> exact ⟨_, rfl⟩

/-- A register write completes with no byte. -/
theorem exec_of_space_regWrite {i : Instr} (hi : i.space = .regWrite) (s : State) :
    ∃ d, exec i s = s.finish d [] := by
  cases i <;> cases hi <;> exact ⟨_, rfl⟩

/-- A command other than READ returns no byte, an empty WRITE included. -/
theorem exec_command_out {i : Instr} (hi : i.space = .command) (hread : ∀ n, i ≠ .read n) {s t : State}
    (h : exec i s = .next t) : t.out = [] := by
  cases i with
  | nop => cases h; rfl
  | write bytes => cases bytes <;> cases h <;> rfl
  | read n => exact absurd rfl (hread n)
  | endTransaction => cases h; rfl
  | tick => cases h; rfl
  | reset => cases h; rfl
  | _ => cases hi

/-- Settles O49, by the decode space of the operation. -/
theorem onlyReadsReturnAndReadsChangeNothing : Obligations.OnlyReadsReturnAndReadsChangeNothing := by
  intro i s t h
  constructor
  · rintro (hi | ⟨n, rfl⟩)
    · obtain ⟨b, hb⟩ := exec_of_space_regRead hi s
      rw [hb, State.finish_eq_next] at h
      rw [h]
    · exact exec_read_dev h
  · intro hout
    by_contra hnot
    obtain ⟨hspace, hread⟩ := not_or.mp hnot
    refine hout ?_
    cases hi : i.space with
    | regRead => exact absurd hi hspace
    | regWrite =>
      obtain ⟨d, hd⟩ := exec_of_space_regWrite hi s
      rw [hd, State.finish_eq_next] at h
      rw [h]
    | command => exact exec_command_out hi (not_exists.mp hread) h

end Sys2Proof.Machine
end

section
/-! ## The round trip, the sample words and the register rows (R56, R58) -/

namespace Sys2Proof

/-- Settles O1. -/
theorem encodeThenDecodeRecoversInstr : Obligations.EncodeThenDecodeRecoversInstr :=
  fun _ rest hwf => decode_encode_append hwf rest

/-- Settles O2. -/
theorem decodedBytesAreTheEncoding : Obligations.DecodedBytesAreTheEncoding :=
  fun _ _ _ _ h => spells_of_decode h

/-- Settles O3, word by word. -/
theorem sampleWordsDecode : Obligations.SampleWordsDecode :=
  ⟨rfl, rfl, rfl, rfl, rfl, rfl, rfl⟩

/-- Settles O4, over the 256 addresses. -/
theorem exactlyOneRegisterRowFits : Obligations.ExactlyOneRegisterRowFits := by
  unfold Obligations.ExactlyOneRegisterRowFits
  decide

end Sys2Proof
end

section
/-! ## A table row delivered next (R60, logs 1 to 3)

A row's bits are a whole word by themselves, and what follows a word does not change what the decoder reads from it. -/

namespace Sys2Proof

/-- Bytes that follow an operation do not change how the decoder reads it (R58, R60). -/
theorem decode_append {sp : Space} {bytes : List Byte} {i : Instr} {rest : List Byte}
    (h : decode sp bytes = .ok (i, rest)) (more : List Byte) : decode sp (bytes ++ more) = .ok (i, rest ++ more) := by
  obtain ⟨hwf, hsp, rfl⟩ := spells_of_decode h
  rw [decode_eq_ok_iff, List.append_assoc]
  exact ⟨hwf, hsp, rfl⟩

/-- Every row number spells one whole operation of its space, with no byte left over. -/
theorem decode_tableLayout (nbits w : Nat) :
    ∃ i, decode (tableLayout nbits w).1 (tableLayout nbits w).2 = .ok (i, []) := by
  unfold tableLayout
  split_ifs with h16 hoperand hcommand
  · exact ⟨_, rfl⟩
  · obtain rfl | rfl := hoperand
    · exact ⟨.write [], rfl⟩
    · exact ⟨.read 0, rfl⟩
  · obtain rfl | rfl | rfl | rfl : w = 0 ∨ w = 3 ∨ w = 4 ∨ w = 5 := by omega
    all_goals exact ⟨_, rfl⟩
  · exact ⟨_, rfl⟩

/-- What the decoder reads from a row's bits takes all of them. -/
theorem decode_tableLayout_of_decodeTableWord {nbits w : Nat} {i : Instr} (h : decodeTableWord nbits w = some i) :
    decode (tableLayout nbits w).1 (tableLayout nbits w).2 = .ok (i, []) := by
  obtain ⟨j, hj⟩ := decode_tableLayout nbits w
  unfold decodeTableWord at h
  split at h
  · rw [hj] at h
    cases h
    exact hj
  · cases h

end Sys2Proof

namespace Sys2Proof.Machine

/-- Settles O8: the row's bytes decode alike with the rest of the stream behind them. -/
theorem fetchedTableWordIsTheNextOperation : Obligations.FetchedTableWordIsTheNextOperation := by
  intro s nbits w i h
  have hrow := decode_tableLayout_of_decodeTableWord h
  obtain ⟨-, hspace, -⟩ := spells_of_decode hrow
  rw [step_of_decode (s := s.withFetchWord nbits w) (decode_append hrow s.stream), hspace]
  rfl

end Sys2Proof.Machine
end

section
/-! ## WRITE: its data bytes in order, and the bytes they leave stored (R54, R102) -/

namespace Sys2Proof.Machine

/-- The data bytes of a WRITE go by RegWrite to consecutive addresses, and the pointer then stands one past them: `k`
counts the bytes already written from the address `a` on (R102). -/
theorem writeRegs_eq_foldl (a : Byte) (data : List Byte) (k : Nat) (d : Device) :
    writeRegs (a + BitVec.ofNat 8 k) data d =
      ((data.zipIdx k).foldl (fun d vi => regWrite (a + BitVec.ofNat 8 vi.2) vi.1 d) d).setPtr
        (some (a + BitVec.ofNat 8 (k + data.length))) := by
  induction data generalizing k d with
  | nil => rfl
  | cons v data ih =>
    have hnext : a + BitVec.ofNat 8 k + 1 = a + BitVec.ofNat 8 (k + 1) := by
      rw [BitVec.ofNat_add, ← BitVec.add_assoc]
      rfl
    have hlen : k + 1 + data.length = k + (v :: data).length := by rw [List.length_cons]; omega
    rw [writeRegs_cons, hnext, ih, hlen, List.zipIdx_cons, List.foldl_cons]

/-- Settles O32, from the first data byte on. -/
theorem writeLatchesAndPostIncrements : Obligations.WriteLatchesAndPostIncrements := by
  intro s
  refine ⟨⟨_, rfl, rfl, rfl, rfl, rfl, rfl⟩, fun a data => ⟨_, rfl, ?_, ⟨rfl, rfl⟩, rfl, rfl⟩⟩
  have hptr : BitVec.ofNat 8 (a.toNat + data.length) = a + BitVec.ofNat 8 (0 + data.length) := by
    rw [BitVec.ofNat_add, BitVec.ofNat_toNat, BitVec.setWidth_eq, Nat.zero_add]
  have hdev := writeRegs_eq_foldl a data 0 s.dev
  rw [BitVec.add_zero] at hdev
  rw [hptr]
  exact hdev

/-- An address other than the first is one step further from it than from the next (R54). -/
theorem toNat_sub_eq_succ {a p : Byte} (h : a ≠ p) : (a - p).toNat = (a - (p + 1)).toNat + 1 := by
  bv_omega

/-- The stored bytes after a WRITE's data bytes: an address just written keeps its byte, for the bytes that follow are
too few to come round to it again (R54). -/
theorem writeRegs_load (p : Byte) (data : List Byte) (hlen : data.length ≤ 256) (d : Device) (b : Byte) :
    (writeRegs p data d).load b = data.getD (b - p).toNat (d.load b) := by
  induction data generalizing p d with
  | nil => rfl
  | cons v data ih =>
    rw [List.length_cons] at hlen
    rw [writeRegs_cons, ih (p + 1) (by omega), regWrite_load]
    by_cases hb : b = p
    · subst hb
      have hfar : data.length ≤ (b - (b + 1)).toNat := by bv_omega
      rw [if_pos rfl, List.getD_eq_default _ _ hfar, BitVec.sub_self]
      rfl
    · rw [if_neg hb, toNat_sub_eq_succ hb, List.getD_cons_succ]

/-- Settles O33. -/
theorem writeStoresItsDataBytes : Obligations.WriteStoresItsDataBytes :=
  fun s a data hlen => ⟨_, rfl, writeRegs_load a data hlen s.dev⟩

end Sys2Proof.Machine
end

section
/-! ## READ by the pointer, and the micro-operations inside WRITE and READ (R56, R103) -/

namespace Sys2Proof.Machine

/-- Settles O34, by the three cases of the pointer. -/
theorem readAnswersByPointer : Obligations.ReadAnswersByPointer := by
  intro s n
  cases hp : s.dev.ptr with
  | none => exact ⟨_, exec_read_of_ptr_none hp n, rfl, ⟨rfl, rfl⟩, fun _ => ⟨rfl, rfl⟩, nofun, nofun⟩
  | some a =>
    refine ⟨_, exec_read_of_ptr_some hp n, rfl, ⟨rfl, rfl⟩, nofun, ?_, ?_⟩
    · rintro ⟨⟩
      exact ⟨rfl, rfl⟩
    · rintro _ hne ⟨⟩
      exact ⟨if_neg hne, rfl⟩

/-- The register write decoded from an address does what RegWrite does there (R56, R99). -/
theorem exec_writeInstr (a v : Byte) (s : State) :
    exec ((RegName.ofAddr a).writeInstr a v) s = s.finish (regWrite a v s.dev) [] := by
  have hcov := RegName.ofAddr_covers a
  rw [regWrite]
  cases hr : RegName.ofAddr a with
  | undefHi => rfl
  | _ =>
    rw [hr] at hcov
    obtain rfl := eq_of_beq hcov
    rfl

/-- The register read decoded from an address returns what RegRead reads there (R56, R100). -/
theorem exec_readInstr (a : Byte) (s : State) :
    exec ((RegName.ofAddr a).readInstr a) s = s.finish s.dev [regRead a s.dev] := by
  have hcov := RegName.ofAddr_covers a
  rw [regRead]
  cases hr : RegName.ofAddr a with
  | undefHi => rfl
  | _ =>
    rw [hr] at hcov
    obtain rfl := eq_of_beq hcov
    rfl

/-- Settles O28. -/
theorem busTransactionsRunTheMicroOperations : Obligations.BusTransactionsRunTheMicroOperations := by
  intro a v s n
  refine ⟨⟨_, _, rfl, exec_writeInstr a v s, rfl⟩, fun hne hptr => ⟨_, ?_, exec_readInstr a s⟩⟩
  have hbyte : a ≠ Config.burstBase := hne
  rw [exec_read_of_ptr_some hptr, if_neg hbyte]
  rfl

end Sys2Proof.Machine
end

section
/-! ## Who changes a stored byte (R54, R77) -/

namespace Sys2Proof.Machine

/-- The data bytes of a WRITE leave a stored byte they do not reach alone, however many they are (R54). -/
theorem writeRegs_load_of_not_reached {a b : Byte} {data : List Byte} (h : ¬(b - a).toNat < data.length) (d : Device) :
    (writeRegs a data d).load b = d.load b := by
  refine writeRegs_keeps (P := fun e => e.load b = d.load b) a data d (fun c v e hc he => ?_) (fun _ _ => id) rfl
  have hbc : b ≠ c := by
    rintro rfl
    exact h hc
  rw [regWrite_load, if_neg hbc, he]

/-- An effect that changes a stored byte is that of RESET or of a write that reaches it. -/
theorem DeviceEffect.of_load_ne {d e : Device} {i : Instr} {b : Byte} (he : DeviceEffect d i e)
    (hne : e.load b ≠ d.load b) : i = .reset ∨ writesTo i b = true := by
  cases he with
  | unchanged => exact absurd rfl hne
  | endTransaction => exact absurd rfl hne
  | tick => exact absurd (congrArg (Memory.read b.toNat) (advanceOneSecond_x d)) hne
  | reset => exact .inl rfl
  | write a data =>
    refine .inr (decide_eq_true ?_)
    by_contra hfar
    exact hne (writeRegs_load_of_not_reached hfar d)
  | register a v hw =>
    have hba : b = a := by
      by_contra hba
      exact hne (by rw [regWrite_load, if_neg hba])
    exact .inr (hba ▸ hw)
  | undefHi a v =>
    refine .inr (beq_iff_eq.mpr ?_)
    by_contra hba
    exact hne (Device.load_store_other hba v d)

/-- Settles O50, by the effects an operation can have. -/
theorem onlyWritesChangeAStoredByte : Obligations.OnlyWritesChangeAStoredByte :=
  fun _ _ _ _ h hne => (exec_effect h).of_load_ne hne

end Sys2Proof.Machine
end

section
/-! ## The two directions of the codec (R65, R68) -/

namespace Sys2Proof.Machine

/-- Settles O9. -/
theorem bcdDecodeOfAnyInput : Obligations.BcdDecodeOfAnyInput := by
  refine ⟨fun b => ⟨bcdDecode_eq b, ?_⟩, rfl⟩
  rw [bcdDecode_eq]
  omega

/-- The byte that holds `ENC` of a value decodes to the value modulo 160: its high nibble is the quotient by ten modulo
16 (R68). -/
theorem bcdDecode_enc_mod (u : Nat) : bcdDecode (enc u % 256) = u % 160 := by
  have hhigh : enc u % 256 / 16 % 16 = u / 10 % 16 := by rw [enc_eq]; omega
  have hlow : enc u % 256 % 16 = u % 10 := by rw [enc_eq]; omega
  rw [bcdDecode_eq, hhigh, hlow]
  omega

/-- Up to 99 `encode` needs no cut to a byte. -/
theorem bcdEncode_mod_of_le {u : Nat} (h : u ≤ 99) : bcdEncode u % 256 = bcdEncode u := by
  rw [bcdEncode_eq]
  omega

/-- Settles O10: up to 99 `encode` is `ENC`, the value fits the byte and is below 160. -/
theorem encodeDecodeRoundTrip : Obligations.EncodeDecodeRoundTrip := by
  refine fun u => ⟨bcdDecode_enc_mod u, fun hu => ?_⟩
  calc bcdDecode (bcdEncode u)
    _ = bcdDecode (bcdEncode u % 256) := by rw [bcdEncode_mod_of_le hu]
    _ = u % 160 := bcdDecode_enc_mod u
    _ = u := Nat.mod_eq_of_lt (by omega)

/-- `ENC` of a two-digit value whose lower digit is no decimal digit carries into the higher nibble. -/
theorem packed_digits_carry {u : Nat} (h : 9 < u) (hu : u < 16) (t : Nat) :
    (10 * t + u) / 10 * 16 + (10 * t + u) % 10 = 16 * t + u + 6 := by
  omega

/-- Settles O11: a decimal low nibble is packed again as it was, any other carries. -/
theorem decodeEncodeRoundTrip : Obligations.DecodeEncodeRoundTrip := by
  intro b
  have hhigh : b.toNat / 16 % 16 = b.toNat / 16 := Nat.mod_eq_of_lt (by omega)
  rw [enc_eq, bcdDecode_eq, hhigh, Nat.mul_comm (b.toNat / 16) 10]
  by_cases hlow : b.toNat % 16 ≤ 9
  · rw [packed_digits hlow, Nat.div_add_mod]
    exact iff_of_true rfl hlow
  · rw [packed_digits_carry (Nat.lt_of_not_le hlow) (Nat.mod_lt _ (by decide)), Nat.div_add_mod]
    exact iff_of_false (by omega) hlow

end Sys2Proof.Machine
end

section
/-! ## The carry chain, field by field (R69, R71) -/

namespace Sys2Proof.Machine

/-- A counter below a threshold has room for its step: no threshold of the calendar is above 255. -/
theorem toNat_succ_lt_of_lt {b : Byte} {n : Nat} (h : b.toNat < n) (hn : n ≤ 255 := by decide) : b.toNat + 1 < 256 := by
  omega

/-- Settles O43, by how far the carry runs: the fields below the one that stops it are at their minimum, that field steps
from below its threshold, and those above are kept. -/
theorem tickCarriesFieldByField : Obligations.TickCarriesFieldByField := by
  intro s hosc
  refine ⟨_, rfl, ?_⟩
  have hcal : s.dev.advanceOneSecond.cal = s.dev.cal.advance := by rw [advanceOneSecond_running hosc]; rfl
  have hlen := (daysInMonth_bounds s.dev.cal.month.toNat s.dev.cal.year.toNat).2
  simp only [hcal]
  obtain ⟨lt, e⟩ | ⟨hs, lt, e⟩ | ⟨hs, hm, lt, e⟩ | ⟨hs, hm, hh, lt, e⟩ | ⟨hs, hm, hh, hd, lt, e⟩ |
    ⟨hs, hm, hh, hd, hmo, e⟩ := s.dev.cal.advance_cases <;> rw [e]
  · simp [Nat.not_le.mpr lt, toNat_succ_lt_of_lt lt]
  · simp [hs, Nat.not_le.mpr lt, toNat_succ_lt_of_lt lt]
  · simp [hs, hm, Nat.not_le.mpr lt, toNat_succ_lt_of_lt lt]
  · simp [hs, hm, hh, Nat.not_le.mpr lt, toNat_succ_lt_of_lt lt (hlen.trans (by decide)), stepWeekday_toNat]
  · simp [hs, hm, hh, hd, Nat.not_le.mpr lt, toNat_succ_lt_of_lt lt, stepWeekday_toNat]
  · simp [hs, hm, hh, hd, hmo, stepWeekday_toNat]

end Sys2Proof.Machine
end

section
/-! ## pm20 after an advance (R75) -/

namespace Sys2Proof.Machine

/-- An advance that happens sets pm20 from the hour it leaves. -/
theorem advanceOneSecond_pm20 {d : Device} (h : d.flag.oscEn = true) :
    d.advanceOneSecond.flag.pm20 = pm20OfHour d.advanceOneSecond.cal.hour := by
  rw [advanceOneSecond_running h]
  rfl

/-- Settles O41. -/
theorem tickRecomputesPm20FromTheNewHour : Obligations.TickRecomputesPm20FromTheNewHour :=
  fun _ hosc => ⟨_, rfl, (advanceOneSecond_pm20 hosc).trans (pm20OfHour_eq _)⟩

end Sys2Proof.Machine
end

section
/-! ## The register writes and reads one by one (spec/42_register_access.md)

A write of a timekeeping register or of CONTROL: the byte goes to its address, the counter or flag takes its value, and
every other field is the old one. A read is the arithmetic of its register's composition law. -/

namespace Sys2Proof.Machine

/-- Settles O12: both counters take the seven-bit field. -/
theorem secondsAndMinutesWrites : Obligations.SecondsAndMinutesWrites :=
  fun v _ =>
    ⟨⟨_, rfl, storedOnly_of_x rfl, rfl, rfl, rfl, bcd7_toNat v, ⟨rfl, rfl⟩, ⟨rfl, rfl⟩⟩,
      ⟨_, rfl, storedOnly_of_x rfl, rfl, rfl, rfl, bcd7_toNat v, ⟨rfl, rfl⟩, ⟨rfl, rfl⟩⟩⟩

/-- Settles O14: the weekday takes the raw field, the day of the month the six-bit one. -/
theorem dayWrites : Obligations.DayWrites :=
  fun v _ =>
    ⟨⟨_, rfl, storedOnly_of_x rfl, rfl, rfl, rfl, rawWeekday_toNat v, ⟨rfl, rfl⟩, ⟨rfl, rfl⟩⟩,
      ⟨_, rfl, storedOnly_of_x rfl, rfl, rfl, rfl, bcd6_toNat v, ⟨rfl, rfl⟩, ⟨rfl, rfl⟩⟩⟩

/-- Settles O16, with the century flag as it is before the write. -/
theorem yearWrite : Obligations.YearWrite :=
  fun v s => ⟨_, rfl, storedOnly_of_x rfl, rfl, rfl, rfl, yearOperand_toNat s.dev.flag.century v, ⟨rfl, rfl⟩, ⟨rfl, rfl⟩⟩

/-- The flags after a CONTROL write, by bit 7 of the byte (R93). -/
theorem Flags.afterControl_eq (f : Flags) (v : Byte) : f.afterControl v = { f with oscEn := !(v.getLsbD 7) } := by
  rw [Flags.afterControl, bitAt_eq]

/-- Settles O17: the tick source is enabled by the flag itself (R35). -/
theorem controlWrite : Obligations.ControlWrite := by
  intro v s
  have hflag := Flags.afterControl_eq s.dev.flag v
  exact ⟨_, rfl, storedOnly_of_x rfl, rfl, rfl, hflag, congrArg Flags.oscEn hflag, ⟨rfl, rfl⟩, ⟨rfl, rfl⟩⟩

/-- An instruction that completes on the same device with the byte `g` composes returns the byte `f`, where the two are
the same (R43). -/
theorem returnsByte_of_exec {i : Instr} {f g : Device → Byte} (h : ∀ s, exec i s = s.finish s.dev [g s.dev])
    (hgf : ∀ d, g d = f d) : ReturnsByte i f :=
  fun s => ⟨_, h s, congrArg ([·]) (hgf s.dev), rfl, ⟨rfl, rfl⟩, rfl⟩

/-- Settles O20. -/
theorem secondsAndMinutesReads : Obligations.SecondsAndMinutesReads :=
  ⟨returnsByte_of_exec (fun _ => rfl) regrSeconds_eq, returnsByte_of_exec (fun _ => rfl) regrMinutes_eq⟩

/-- Settles O22. -/
theorem dayReads : Obligations.DayReads :=
  ⟨returnsByte_of_exec (fun _ => rfl) regrDayOfWeek_eq, returnsByte_of_exec (fun _ => rfl) regrDayOfMonth_eq⟩

/-- Settles O23. -/
theorem monthRead : Obligations.MonthRead :=
  returnsByte_of_exec (fun _ => rfl) regrMonth_eq

/-- Settles O25. -/
theorem controlRead : Obligations.ControlRead :=
  returnsByte_of_exec (fun _ => rfl) regrControl_eq

/-- Settles O26: every one of these reads is one load. -/
theorem storedByteReads : Obligations.StoredByteReads := by
  refine ⟨?_, ⟨?_, ?_, ?_, ?_⟩, ⟨?_, ?_, ?_⟩, ⟨?_, ?_, ?_, ?_⟩, fun a => ?_⟩ <;>
    exact returnsByte_of_exec (fun _ => rfl) fun _ => rfl

end Sys2Proof.Machine
end

section
/-! ## RegWrite and RegRead by address (R99, R100) -/

namespace Sys2Proof

/-- The addresses with behaviour are 0x00..0x06, 0x0E and 0x0F (R14, R15). -/
theorem RegName.ofAddr_cls_ne_behavioural :
    ∀ a : Byte, 0x07 ≤ a.toNat → a ≠ 0x0E → a ≠ 0x0F → (RegName.ofAddr a).cls ≠ .behavioural := by decide

end Sys2Proof

namespace Sys2Proof.Machine

/-- RegWrite at an address without behaviour is a store (R97, R99). -/
theorem regWrite_of_not_behavioural {a : Byte} (h : (RegName.ofAddr a).cls ≠ .behavioural) (v : Byte) (d : Device) :
    regWrite a v d = d.store a v := by
  rw [regWrite]
  cases hr : RegName.ofAddr a with
  | seconds | minutes | hours | dayOfWeek | dayOfMonth | month | year | control | status =>
    exact absurd (congrArg RegName.cls hr) h
  | _ => rfl

/-- RegRead at an address without behaviour is a load (R98, R100). -/
theorem regRead_of_not_behavioural {a : Byte} (h : (RegName.ofAddr a).cls ≠ .behavioural) (d : Device) :
    regRead a d = d.load a := by
  rw [regRead]
  cases hr : RegName.ofAddr a with
  | seconds | minutes | hours | dayOfWeek | dayOfMonth | month | year | control | status =>
    exact absurd (congrArg RegName.cls hr) h
  | _ => rfl

/-- Settles O27: each listed micro-operation is the one its address decodes to, and the other addresses have no
behaviour. -/
theorem regWriteAndRegReadDispatch : Obligations.RegWriteAndRegReadDispatch := by
  intro v s
  refine ⟨fun p hp => ?_, fun p hp => ?_, fun a h7 hE hF => ?_⟩
  · have hi : p.2 = (RegName.ofAddr p.1).writeInstr p.1 v := by fin_cases hp <;> rfl
    rw [hi]
    exact ⟨_, exec_writeInstr p.1 v s, rfl, ⟨rfl, rfl⟩⟩
  · have hi : p.2 = (RegName.ofAddr p.1).readInstr p.1 := by fin_cases hp <;> rfl
    rw [hi]
    exact ⟨_, exec_readInstr p.1 s, rfl, rfl⟩
  · have hplain := RegName.ofAddr_cls_ne_behavioural a h7 hE hF
    rw [regWrite_of_not_behavioural hplain]
    exact ⟨regRead_of_not_behavioural hplain s.dev, Device.load_store s.dev a v, rfl, rfl, rfl⟩

end Sys2Proof.Machine
end

section
/-! ## Who changes the pointer (R104, R105) -/

namespace Sys2Proof.Machine

/-- An effect that changes the pointer is that of RESET, END_TRANSACTION or a WRITE with its address byte. -/
theorem DeviceEffect.of_ptr_ne {d e : Device} {i : Instr} (he : DeviceEffect d i e) (hne : e.ptr ≠ d.ptr) :
    i = .reset ∨ i = .endTransaction ∨ ∃ a data, i = .write (a :: data) := by
  cases he with
  | unchanged => exact absurd rfl hne
  | endTransaction => exact .inr (.inl rfl)
  | tick => exact absurd (advanceOneSecond_ptr d) hne
  | reset => exact .inl rfl
  | write a data => exact .inr (.inr ⟨a, data, rfl⟩)
  | register a v => exact absurd (regWrite_ptr a v d) hne
  | undefHi a v => exact absurd (Device.store_ptr d a v) hne

/-- Settles O53, by the effects an operation can have. -/
theorem onlyBusOperationsChangeThePointer : Obligations.OnlyBusOperationsChangeThePointer :=
  fun _ _ _ h hne => (exec_effect h).of_ptr_ne hne

/-- Settles O35: the operation completes on the device with its pointer cleared. -/
theorem endTransactionClearsThePointer : Obligations.EndTransactionClearsThePointer :=
  fun s => ⟨_, rfl, Device.setPtr_ptr s.dev none, rfl, rfl, rfl, ⟨rfl, rfl⟩, ⟨rfl, rfl⟩⟩

end Sys2Proof.Machine
end

section
/-! ## The two diagnostics (R113 to R116) -/

namespace Sys2Proof.Machine

/-- The operation decides the diagnostic it yields: the warning is an empty WRITE's, the error a READ's without a pointer
(R113). -/
theorem exec_diag_iff {i : Instr} {s t : State} (h : exec i s = .next t) :
    (t.diag = .warnEmptyWrite ↔ i = .write []) ∧ (t.diag = .errReadUnaddressed ↔ UnaddressedRead i s) := by
  obtain ⟨u, hu, -, hwarn, herr, -⟩ := everyOperationAnswers i s
  cases hu.symm.trans h
  exact ⟨hwarn, herr⟩

/-- Settles O46: an empty WRITE only raises its warning, and no other operation yields it. -/
theorem emptyWriteWarnsAndChangesNothing : Obligations.EmptyWriteWarnsAndChangesNothing :=
  ⟨fun _ => ⟨_, rfl, rfl, rfl, rfl, rfl⟩, fun _ _ _ h => (exec_diag_iff h).1.mp⟩

/-- Settles O47: a READ without a pointer only raises its error, and no other operation yields it. -/
theorem unaddressedReadErrsAndChangesNothing : Obligations.UnaddressedReadErrsAndChangesNothing :=
  ⟨fun _ count hptr => ⟨_, exec_read_of_ptr_none hptr count, rfl, rfl, rfl, rfl⟩,
    fun _ _ _ h => (exec_diag_iff h).2.mp⟩

end Sys2Proof.Machine
end


section
/-! ## The registers read back after RESET (R106, S2) -/

namespace Sys2Proof.Machine

/-- A WRITE of a pointer other than 0x00 alone, then a READ with any count, returns the register there as it was before
(R102, R103). -/
theorem exec_write_ptr_read {a : Byte} (ha : a ≠ Config.burstBase) (s : State) (n : Nat) :
    ∃ t u, exec (.write [a]) s = .next t ∧ exec (.read n) t = .next u ∧ u.out = [regRead a s.dev] := by
  refine ⟨_, _, rfl, exec_read_of_ptr_some rfl n, ?_⟩
  calc (if a = Config.burstBase then burst (s.dev.setPtr (some a)) else [regRead a (s.dev.setPtr (some a))])
    _ = [regRead a (s.dev.setPtr (some a))] := if_neg ha
    _ = [regRead a s.dev] := congrArg ([·]) (regRead_setPtr a (some a) s.dev)

/-- RESET completes on the device of R37, from any state (R106). -/
theorem exec_reset_dev (s : State) : ∃ r, exec .reset s = .next r ∧ r.dev = Device.reset :=
  ⟨_, rfl, Device.toReset_eq s.dev⟩

/-- At reset CONTROL and STATUS read as their reset contents: the oscillator runs, so bit 7 of CONTROL is clear (R37, R94,
R96). -/
theorem regRead_control_status_reset :
    regRead 0x0E Device.reset = Config.controlReset ∧ regRead 0x0F Device.reset = Config.statusReset := by
  decide

/-- Settles O38: the READ right after RESET finds no pointer, and the other two read the device of R37. -/
theorem controlAndStatusReadBackAfterReset : Obligations.ControlAndStatusReadBackAfterReset := by
  intro s n
  obtain ⟨r, hreset, hdev⟩ := exec_reset_dev s
  obtain ⟨hcontrol, hstatus⟩ := regRead_control_status_reset
  have hptr : r.dev.ptr = none := congrArg Device.ptr hdev
  refine ⟨r, hreset, ⟨_, exec_read_of_ptr_none hptr n, rfl, rfl, rfl⟩, ?_, ?_⟩
  · have hread := exec_write_ptr_read (a := 0x0E) (by decide) r n
    rwa [hdev, hcontrol] at hread
  · have hread := exec_write_ptr_read (a := 0x0F) (by decide) r n
    rwa [hdev, hstatus] at hread

end Sys2Proof.Machine
end

section
/-! ## Reserved opcodes and truncated frames (R59, R61) -/

namespace Sys2Proof

/-- A byte 0x06..0xFF in opcode position is reserved, whatever follows it (R61). -/
theorem decodeCommand_reserved {op : Byte} (h : 0x06 ≤ op.toNat) (rest : List Byte) :
    decodeCommand (op :: rest) = .error (.reserved op) := by
  simp only [decodeCommand]
  split
  case h_7 => rfl
  all_goals omega

/-- A WRITE frame with fewer bytes than its length byte says is truncated (R59). -/
theorem decodeCommand_short_write {n : Byte} {payload : List Byte} (h : payload.length < n.toNat) :
    decodeCommand (0x01 :: n :: payload) = .error .truncated :=
  if_pos h

end Sys2Proof

namespace Sys2Proof.Machine

/-- On the command port, what the decoder refuses the step refuses by the same name (R59, R61). -/
theorem step_of_decodeCommand_error {s : State} (hport : s.port = .command) {bytes : List Byte} (hs : s.stream = bytes)
    {e : DecodeError} (h : decodeCommand bytes = .error e) : step s = .refused (refusalOf e) := by
  simp [step, hport, hs, decode, h]

/-- Settles O5, by the decoder's verdict on each of the four streams. -/
theorem reservedAndTruncatedFramesAreRefused : Obligations.ReservedAndTruncatedFramesAreRefused :=
  fun _ hport =>
    ⟨fun _ rest hs hop => step_of_decodeCommand_error hport hs (decodeCommand_reserved hop rest),
      fun hs => step_of_decodeCommand_error hport hs rfl,
      fun _ _ hs hlen => step_of_decodeCommand_error hport hs (decodeCommand_short_write hlen),
      fun hs => step_of_decodeCommand_error hport hs rfl⟩

end Sys2Proof.Machine
end

section
/-! ## YEAR under a set century flag (R91, R92, conflict C3) -/

namespace Sys2Proof.Machine

/-- Under the century flag the offset a YEAR read encodes is 100 more than the value a YEAR write decoded: the write adds
the century offset twice and the read takes it off once (C3). -/
theorem yearOffset_yearOperand_true (v : Byte) :
    yearOffset true (yearOperand true v) = 100 + (10 * (v.toNat / 16) + v.toNat % 16) := by
  simp only [yearOffset_eq, yearOperand_toNat, if_true]
  omega

/-- A hundred more is ten more in the tens digit. -/
theorem packed_hundred_add (u : Nat) : packed (100 + u) = 160 + packed u := by
  simp only [packed]
  omega

/-- Decoding and packing a byte leaves it as it was, or, where the low nibble is no decimal digit, carries into the high
one. -/
theorem packed_value (v : Byte) : packed (10 * (v.toNat / 16) + v.toNat % 16) = v.toNat ∨
    packed (10 * (v.toNat / 16) + v.toNat % 16) = v.toNat + 6 := by
  by_cases hlow : v.toNat % 16 ≤ 9
  · exact .inl ((packed_digits hlow _).trans (Nat.div_add_mod _ _))
  · have hcarry := packed_digits_carry (Nat.lt_of_not_le hlow) (Nat.mod_lt _ (by decide)) (v.toNat / 16)
    exact .inr (hcarry.trans (congrArg (· + 6) (Nat.div_add_mod _ _)))

/-- A byte is composed modulo 256. -/
theorem ofNat_mod_byte (n : Nat) : BitVec.ofNat 8 (n % 256) = BitVec.ofNat 8 n :=
  BitVec.eq_of_toNat_eq (Nat.mod_mod n 256)

/-- What YEAR reads back after a write under the century flag. -/
theorem regrYear_regwYear_century (v : Byte) {d : Device} (hc : d.flag.century = true) :
    regrYear (regwYear v d) = BitVec.ofNat 8 (packed (100 + (10 * (v.toNat / 16) + v.toNat % 16))) := by
  rw [regrYear_eq, regwYear]
  simp only [Device.setCal_cal, Device.setCal_flag, Device.store_flag, hc, yearOffset_yearOperand_true, packed]

/-- Settles O31: the byte read is 160 or 166 more than the byte written, modulo 256. -/
theorem yearReadsBackOffByACentury : Obligations.YearReadsBackOffByACentury := by
  intro v d hc
  have hread : regRead 0x06 (regWrite 0x06 v d) = _ := regrYear_regwYear_century v hc
  rw [hread]
  refine ⟨(ofNat_mod_byte _).symm, fun h => ?_⟩
  have hval : packed (100 + (10 * (v.toNat / 16) + v.toNat % 16)) % 256 = v.toNat := congrArg BitVec.toNat h
  rw [packed_hundred_add] at hval
  obtain hp | hp := packed_value v <;> rw [hp] at hval <;> omega

end Sys2Proof.Machine
end

section
/-! ## One second of the civil calendar (R71 to R74) -/

namespace Sys2Proof.Machine

/-- The time of day as a count of seconds from midnight. -/
def Calendar.secondOfDay (c : Calendar) : Nat := 3600 * c.hour.toNat + 60 * c.minute.toNat + c.second.toNat

/-- The count of seconds is the whole days before today and the time of day. -/
theorem Calendar.seconds_eq (c : Calendar) : c.seconds = 86400 * c.days + c.secondOfDay := by
  simp only [Calendar.seconds, Calendar.secondOfDay]
  omega

/-- The leap day of the running totals is the one of the month lengths (R73). -/
theorem isLeap_iff_civil (y : Nat) : isLeap y = true ↔ y % 400 = 0 ∨ (y % 4 = 0 ∧ y % 100 ≠ 0) := by
  rw [isLeap_iff, or_comm]

/-- The running totals of the civil calendar differ by the month's length (R72). -/
theorem daysBeforeMonth_succ {m : Nat} (h1 : 1 ≤ m) (h12 : m < 12) (y : Nat) :
    daysBeforeMonth (m + 1) y = daysBeforeMonth m y + daysInMonth m y := by
  simp only [daysBeforeMonth, daysInMonth, ← isLeap_iff_civil]
  cases isLeap y <;> interval_cases m <;> rfl

/-- January begins the year. -/
theorem daysBeforeMonth_january (y : Nat) : daysBeforeMonth 1 y = 0 := rfl

/-- December ends the year: 365 days, and one more in a leap year (R72, R73). -/
theorem daysBeforeMonth_december (y : Nat) :
    daysBeforeMonth 12 y + daysInMonth 12 y = 365 + (if isLeap y then 1 else 0) := by
  simp only [daysBeforeMonth, daysInMonth, ← isLeap_iff_civil]
  cases isLeap y <;> rfl

/-- A year is 365 days, and one more where it is a leap year (R73). -/
theorem daysBeforeYear_succ (y : Nat) :
    daysBeforeYear (y + 1) = daysBeforeYear y + (365 + (if isLeap y then 1 else 0)) := by
  simp only [daysBeforeYear, isLeap_iff]
  split <;> omega

/-- A counter below a threshold of the calendar steps without wrapping. -/
theorem toNat_succ_of_lt {b : Byte} {n : Nat} (h : b.toNat < n) (hn : n ≤ 255 := by decide) :
    (b + 1).toNat = b.toNat + 1 :=
  BitVec.toNat_add_of_lt (toNat_succ_lt_of_lt h hn)

/-- A day later in the same month. -/
theorem Calendar.days_next_day {c e : Calendar} (hday : 1 ≤ c.dayOfMonth.toNat)
    (hyear : e.year = c.year) (hmonth : e.month = c.month) (hnext : e.dayOfMonth.toNat = c.dayOfMonth.toNat + 1) :
    e.days = c.days + 1 := by
  rw [Calendar.days, Calendar.days, hyear, hmonth, hnext]
  omega

/-- The first of the next month follows the last of a month before December. -/
theorem Calendar.days_next_month {c e : Calendar} (h1 : 1 ≤ c.month.toNat) (h12 : c.month.toNat < 12)
    (hlast : c.dayOfMonth.toNat = daysInMonth c.month.toNat c.year.toNat) (hyear : e.year = c.year)
    (hmonth : e.month.toNat = c.month.toNat + 1) (hday : e.dayOfMonth.toNat = 1) : e.days = c.days + 1 := by
  have hlen := one_le_daysInMonth c.month.toNat c.year.toNat
  rw [Calendar.days, Calendar.days, hyear, hmonth, hday, hlast, daysBeforeMonth_succ h1 h12]
  omega

/-- The first of January follows the last of December. -/
theorem Calendar.days_next_year {c e : Calendar} (h12 : c.month.toNat = 12)
    (hlast : c.dayOfMonth.toNat = daysInMonth c.month.toNat c.year.toNat) (hyear : e.year.toNat = c.year.toNat + 1)
    (hmonth : e.month.toNat = 1) (hday : e.dayOfMonth.toNat = 1) : e.days = c.days + 1 := by
  have hlen := one_le_daysInMonth 12 c.year.toNat
  have hdecember := daysBeforeMonth_december c.year.toNat
  rw [Calendar.days, Calendar.days, hyear, hmonth, hday, hlast, h12, daysBeforeYear_succ, daysBeforeMonth_january]
  omega

/-- All the advance of a calendar in its natural ranges can do to the date: within a day it moves the time of day alone,
and at midnight the next day begins (R71, R74). -/
theorem Calendar.advance_days {c : Calendar} (h : c.InRange) (hy : c.year.toNat < 65535) :
    (c.advance.days = c.days ∧ c.advance.dayOfWeek = c.dayOfWeek ∧ c.advance.secondOfDay = c.secondOfDay + 1) ∨
    (c.advance.days = c.days + 1 ∧ c.advance.dayOfWeek = stepWeekday c.dayOfWeek ∧
      c.secondOfDay = 86399 ∧ c.advance.secondOfDay = 0) := by
  obtain ⟨hs, hm, hh, -, hmo, hmo', hd, hd'⟩ := h
  have hlen := (daysInMonth_bounds c.month.toNat c.year.toNat).2
  have hlast : 59 ≤ c.second.toNat → 59 ≤ c.minute.toNat → 23 ≤ c.hour.toNat → c.secondOfDay = 86399 := by
    rw [Calendar.secondOfDay]
    omega
  obtain ⟨lt, e⟩ | ⟨cs, lt, e⟩ | ⟨cs, cm, lt, e⟩ | ⟨cs, cm, ch, lt, e⟩ | ⟨cs, cm, ch, cd, lt, e⟩ |
    ⟨cs, cm, ch, cd, cmo, e⟩ := c.advance_cases <;> rw [e]
  · refine .inl ⟨rfl, rfl, ?_⟩
    simp only [Calendar.secondOfDay, toNat_succ_of_lt lt]
    omega
  · refine .inl ⟨rfl, rfl, ?_⟩
    simp only [Calendar.secondOfDay, toNat_succ_of_lt lt, BitVec.reduceToNat]
    omega
  · refine .inl ⟨rfl, rfl, ?_⟩
    simp only [Calendar.secondOfDay, toNat_succ_of_lt lt, BitVec.reduceToNat]
    omega
  · exact .inr ⟨Calendar.days_next_day hd rfl rfl (toNat_succ_of_lt lt (hlen.trans (by decide))), rfl,
      hlast cs cm ch, rfl⟩
  · exact .inr ⟨Calendar.days_next_month hmo lt (le_antisymm hd' cd) rfl (toNat_succ_of_lt lt) rfl, rfl,
      hlast cs cm ch, rfl⟩
  · exact .inr ⟨Calendar.days_next_year (le_antisymm hmo' cmo) (le_antisymm hd' cd)
      (BitVec.toNat_add_of_lt (Nat.succ_lt_succ hy)) rfl rfl, rfl, hlast cs cm ch, rfl⟩

/-- The weekday step is one more modulo 7: it takes 7 to 1 (R74). -/
theorem stepWeekday_mod (w : Weekday) : (stepWeekday w).toNat % 7 = (w.toNat + 1) % 7 := by
  rw [stepWeekday_toNat]
  split <;> omega

/-- Settles O44: a second within the day leaves date and weekday alone, the last second of a day moves both on by one. -/
theorem tickIsOneSecondOfTheCivilCalendar : Obligations.TickIsOneSecondOfTheCivilCalendar := by
  intro s hosc hrange hyear
  have hcal : s.dev.advanceOneSecond.cal = s.dev.cal.advance := by rw [advanceOneSecond_running hosc]; rfl
  refine ⟨_, rfl, ?_⟩
  simp only [hcal, Calendar.seconds_eq]
  obtain ⟨hdays, hweek, htime⟩ | ⟨hdays, hweek, hlast, hfirst⟩ := Calendar.advance_days hrange hyear
  · rw [hdays, hweek, htime]
    exact ⟨rfl, rfl⟩
  · have hstep := stepWeekday_mod s.dev.cal.dayOfWeek
    rw [hdays, hweek, hlast, hfirst]
    omega

end Sys2Proof.Machine
end

section
/-! ## Who changes a flag, and what a TICK leaves alone (R23, R77, R108) -/

namespace Sys2Proof.Machine

/-- The advance touches no flag but pm20 (R77). -/
theorem advanceOneSecond_flag (d : Device) :
    d.advanceOneSecond.flag = { d.flag with pm20 := d.advanceOneSecond.flag.pm20 } := by
  unfold Device.advanceOneSecond
  split <;> rfl

/-! Read flag by flag: the three a TICK leaves alone. -/

@[simp] theorem advanceOneSecond_oscEn (d : Device) : d.advanceOneSecond.flag.oscEn = d.flag.oscEn := by
  rw [advanceOneSecond_flag]

@[simp] theorem advanceOneSecond_mode12 (d : Device) : d.advanceOneSecond.flag.mode12 = d.flag.mode12 := by
  rw [advanceOneSecond_flag]

@[simp] theorem advanceOneSecond_century (d : Device) : d.advanceOneSecond.flag.century = d.flag.century := by
  rw [advanceOneSecond_flag]

/-- Settles O42. -/
theorem tickTouchesOnlyTheCalendarAndPm20 : Obligations.TickTouchesOnlyTheCalendarAndPm20 :=
  fun s =>
    ⟨_, rfl, advanceOneSecond_flag s.dev, advanceOneSecond_x s.dev, advanceOneSecond_ptr s.dev, ⟨rfl, rfl⟩, ⟨rfl, rfl⟩⟩

/-- Settles O40. -/
theorem tickWithStoppedOscillatorIsTheIdentity : Obligations.TickWithStoppedOscillatorIsTheIdentity :=
  fun _ hosc => ⟨_, rfl, advanceOneSecond_stopped hosc, ⟨rfl, rfl⟩, ⟨rfl, rfl⟩⟩

/-- An effect that changes a flag `p` which among the register writes only the one at `r` touches is that of RESET, of a
write that reaches `r`, or of a TICK that changes it. -/
theorem DeviceEffect.of_flag_ne {p : Flags → Bool} {r : Byte}
    (hp : ∀ {a : Byte}, a ≠ r → ∀ (v : Byte) (d : Device), p (regWrite a v d).flag = p d.flag)
    {d e : Device} {i : Instr} (he : DeviceEffect d i e) (hne : p e.flag ≠ p d.flag) :
    i = .reset ∨ writesTo i r = true ∨ (i = .tick ∧ p d.advanceOneSecond.flag ≠ p d.flag) := by
  cases he with
  | unchanged => exact absurd rfl hne
  | endTransaction => exact absurd rfl hne
  | tick => exact .inr (.inr ⟨rfl, hne⟩)
  | reset => exact .inl rfl
  | write a data =>
    refine .inr (.inl (decide_eq_true ?_))
    by_contra hfar
    refine hne (writeRegs_keeps (P := fun e => p e.flag = p d.flag) a data d (fun b v e hb hkept => ?_)
      (fun _ _ => id) rfl)
    have hbr : b ≠ r := by
      rintro rfl
      exact hfar hb
    exact (hp hbr v e).trans hkept
  | register a v hw =>
    have har : a = r := by
      by_contra har
      exact hne (hp har v d)
    exact .inr (.inl (har ▸ hw))
  | undefHi => exact absurd rfl hne

/-- A TICK that changes pm20 is one with the oscillator running (R71, R108). -/
theorem oscEn_of_advanceOneSecond_pm20_ne {d : Device} (h : d.advanceOneSecond.flag.pm20 ≠ d.flag.pm20) :
    d.flag.oscEn = true := by
  by_contra hosc
  exact h (by rw [advanceOneSecond_stopped (eq_false_of_ne_true hosc)])

/-- Where a TICK does not touch a flag, only RESET and the writes to its register change it. -/
theorem DeviceEffect.of_flag_ne_of_tick {p : Flags → Bool} {r : Byte}
    (hp : ∀ {a : Byte}, a ≠ r → ∀ (v : Byte) (d : Device), p (regWrite a v d).flag = p d.flag)
    (htick : ∀ d : Device, p d.advanceOneSecond.flag = p d.flag)
    {d e : Device} {i : Instr} (he : DeviceEffect d i e) (hne : p e.flag ≠ p d.flag) :
    i = .reset ∨ writesTo i r = true := by
  obtain hi | hw | ⟨-, hchange⟩ := he.of_flag_ne hp hne
  · exact .inl hi
  · exact .inr hw
  · exact absurd (htick d) hchange

/-- Settles O52, flag by flag: a TICK touches pm20 alone. -/
theorem eachFlagHasOnlyItsWriters : Obligations.EachFlagHasOnlyItsWriters := by
  intro i s t h
  have he := exec_effect h
  refine ⟨he.of_flag_ne_of_tick regWrite_oscEn advanceOneSecond_oscEn,
    he.of_flag_ne_of_tick regWrite_mode12 advanceOneSecond_mode12,
    he.of_flag_ne_of_tick regWrite_century advanceOneSecond_century, fun hne => ?_⟩
  obtain hi | hw | ⟨hi, hchange⟩ := he.of_flag_ne regWrite_pm20 hne
  · exact .inl hi
  · exact .inr (.inl hw)
  · exact .inr (.inr ⟨hi, oscEn_of_advanceOneSecond_pm20_ne hchange⟩)

end Sys2Proof.Machine
end

section
/-! ## MONTH, STATUS, HOURS and YEAR, and the operations that need no operand (R84, R89, R92, R95, R106, R107) -/

namespace Sys2Proof.Machine

/-- The flags after a MONTH write, by bit 7 of the byte (R89). -/
theorem Flags.afterMonth_eq (f : Flags) (v : Byte) : f.afterMonth v = { f with century := v.getLsbD 7 } := by
  rw [Flags.afterMonth, bitAt_eq]

/-- Settles O15. -/
theorem monthWrite : Obligations.MonthWrite :=
  fun v s => ⟨_, rfl, storedOnly_of_x rfl, rfl, rfl, bcd5_toNat v, Flags.afterMonth_eq s.dev.flag v, ⟨rfl, rfl⟩, ⟨rfl, rfl⟩⟩

/-- Settles O18: the write is one store. -/
theorem statusWrite : Obligations.StatusWrite :=
  fun _ => storesByte_of_exec fun _ => rfl

/-- Settles O21. -/
theorem hoursRead : Obligations.HoursRead :=
  returnsByte_of_exec (fun _ => rfl) regrHours_eq

/-- Settles O24: the byte cuts the packed offset by itself. -/
theorem yearRead : Obligations.YearRead := by
  refine returnsByte_of_exec (fun _ => rfl) fun d => ?_
  rw [ofNat_mod_byte, ← yearOffset_eq]
  exact regrYear_eq d

/-- What the addresses hold after RESET (R37). -/
theorem Device.load_reset (a : Byte) :
    Device.reset.load a = if a = 0x0E then 0x1C else if a = 0x0F then 0x88 else 0x00 := by
  simp only [BitVec.toNat_inj.symm]
  rfl

/-- Settles O37. -/
theorem resetRestoresPowerOnState : Obligations.ResetRestoresPowerOnState :=
  fun _ => ⟨_, rfl, rfl, Device.load_reset, rfl, rfl, rfl, rfl, rfl, rfl, rfl, rfl, rfl, rfl, rfl, rfl, ⟨rfl, rfl⟩,
    ⟨rfl, rfl⟩⟩

/-- Settles O39. -/
theorem nopIsTheIdentity : Obligations.NopIsTheIdentity :=
  fun _ => ⟨_, rfl, rfl, ⟨rfl, rfl⟩, ⟨rfl, rfl⟩⟩

end Sys2Proof.Machine
end
